-- ==== Sys2Proof/Word.lean ====
section
/-! DEFINITION. The plain value types of the Calzes CZ460: bytes, tags, station numbers, colours, line levels, layers. -/

-- One declaration after the other: the package as one text then compiles in few threads, and so in little memory.
set_option Elab.async false

namespace Sys2Proof

/-- One byte of a burst or of a local-port transaction. -/
abbrev Byte := BitVec 8

/-- A frame tag, 0–15, compared and advanced modulo 16 (00_scope.md 4.3; R34). -/
abbrev Tag := BitVec 4

/-- A station number, 0–31 (R33). -/
abbrev StationNumber := BitVec 5

/-- A level of an open-drain line; low is dominant (R16). -/
inductive Level where
  | low
  | high
  deriving DecidableEq, Repr

/-- The two picture planes; layer code 0 is the base, 1 the overlay (R10). -/
inductive Layer where
  | base
  | overlay
  deriving DecidableEq, Repr

/-- A colour: red, green and blue of six bits each (R10, 00_scope.md 4.3). -/
structure Color where
  red : BitVec 6
  green : BitVec 6
  blue : BitVec 6
  deriving DecidableEq, Repr

/-- Black, the clear value of a base pixel (R10). -/
def Color.black : Color := ⟨0, 0, 0⟩

/-- A pixel of an overlay bank: a colour and the opaque mark (R10). -/
structure OverlayPixel where
  color : Color
  isOpaque : Bool
  deriving DecidableEq, Repr

/-- Transparent black, the clear value of an overlay pixel and the one value of every transparent pixel (R10). -/
def OverlayPixel.clear : OverlayPixel := ⟨Color.black, false⟩

/-- A bit of the wall data line read at its sample point: high is ONE (true), low is ZERO (false) (R18). -/
def Level.bit : Level → Bool
  | .low => false
  | .high => true

end Sys2Proof
end

