-- ==== Sys2Proof/Syntax.lean ====
section
/-! DEFINITION. The commands of the CZ460: one constructor for each row of spec/opcode_table.json. -/

namespace Sys2Proof

/-- The commands, in the order of the table. A row is one whole step of the part: a taking at the local port, an event on a line
or a pin, or the moment a timer or an activity of the part reaches. The operands are what the outside decides: the parameter
bytes clocked in after the command byte, the level a line is read at, the layer whose pass ends. -/
inductive Instr where
  /-- HARD_RESET: power-on, or a low level on RST# (R150). -/
  | hardReset
  /-- HARD_RESET_END: RST# rises, or the supply reaches its rating (R150, R170). -/
  | hardResetEnd
  /-- START_UP_CLEAR_PASS: the start-up clear pass ends (R150). -/
  | startUpClearPass
  /-- PSEL_FALL: PSEL# falls (R170). -/
  | pselFall
  /-- PSEL_RISE: PSEL# rises (R171). `bits` is the number of bits of the command byte sampled so far; it is read only when no
  whole command byte has been sampled. -/
  | pselRise (bits : Nat)
  /-- READ_STATUS, code 01h (R182). -/
  | readStatus
  /-- READ_ROSTER, code 02h (R91). -/
  | readRoster
  /-- READ_COUNTERS, code 03h (R183). -/
  | readCounters
  /-- CLEAR_COUNTERS, code 04h (R183). -/
  | clearCounters
  /-- TAKE_EVENTS, code 05h (R184). -/
  | takeEvents
  /-- SET_EVENT_MASK, code 06h, with the parameter bytes clocked in (R185). -/
  | setEventMask (params : List Byte)
  /-- CONFIGURE, code 10h, with the parameter bytes clocked in (R173, R174). -/
  | configure (params : List Byte)
  /-- START, code 11h (R175). -/
  | start
  /-- RESET, code 12h: the soft reset (R176). -/
  | reset
  /-- READ_CONFIG, code 13h (R177). -/
  | readConfig
  /-- PUT_STRIPE, code 20h, with the parameter bytes clocked in (R179). -/
  | putStripe (params : List Byte)
  /-- PUT_FILL, code 21h, with the parameter bytes clocked in (R179). -/
  | putFill (params : List Byte)
  /-- PUT_PALETTE, code 22h, with the parameter bytes clocked in (R180). -/
  | putPalette (params : List Byte)
  /-- PUT_LOOK, code 23h, with the parameter bytes clocked in (R180). -/
  | putLook (params : List Byte)
  /-- END_FRAME, code 24h (R181). -/
  | endFrame
  /-- WITHDRAW, code 25h (R181). -/
  | withdraw
  /-- FLUSH_QUEUE, code 26h (R129, R181). -/
  | flushQueue
  /-- UNKNOWN_COMMAND: a command byte that the command table does not list (R172). -/
  | unknownCommand (code : Byte)
  /-- BUS_IDLE: WLD has been high for four bit periods (R19). -/
  | busIdle
  /-- START_PERIOD: a falling edge on an idle WLD (R20). `none` is the edge alone, with the sample point still to come;
  `some l` goes on to the sample point of the START period, where the line reads `l`. -/
  | startPeriod (level : Option Level)
  /-- LOST_ARBITRATION: a contender sends ONE and reads ZERO in byte 0 (R24). -/
  | lostArbitration
  /-- BIT_ERROR: a transmitting station reads back a bit other than the one it sent (R24, R25). -/
  | bitError
  /-- COMPLETION: the last check bit is sampled at level `level` (R22, R51). -/
  | completion (level : Level)
  /-- SLOT_RESULT: the refusal slot is sampled at level `level` (R27, R94). -/
  | slotResult (level : Level)
  /-- STRIPE_COMMIT: a STRIPE commit ends (R105). -/
  | stripeCommit
  /-- FILL_COMMIT: a FILL commit ends (R106). -/
  | fillCommit
  /-- PALETTE_COMMIT: a PALETTE commit ends (R107). -/
  | paletteCommit
  /-- CONFIRMED_RISE: WLS has been high for the sync filter time (R31). -/
  | confirmedRise
  /-- CONFIRMED_FALL: WLS has been low for the sync filter time (R31). -/
  | confirmedFall
  /-- FIRST_CONFIRMED_LEVEL: after STARTING the filter takes its first confirmed level (R32). -/
  | firstConfirmedLevel (level : Level)
  /-- FAULT_WATCH_CLEAR: WLS at the pin reads low (R65). -/
  | faultWatchClear
  /-- REDRIVE_DELAY: the re-drive delay after an edge expires (R53). -/
  | redriveDelay
  /-- FRAME_PERIOD: the frame timer reaches P (R57). -/
  | framePeriod
  /-- HOLD_LIMIT: the frame timer reaches H (R59). -/
  | holdLimit
  /-- STALL_LIMIT: the frame timer reaches H + P (R63). -/
  | stallLimit
  /-- LINE_TIME: a line time elapses (R146). -/
  | lineTime
  /-- PREPARATION_PASS_END: the preparation pass of a layer ends (R143). -/
  | preparationPassEnd (layer : Layer)
  /-- WELCOME_WAIT: the welcome-wait timer reaches 2 × P (R160). -/
  | welcomeWait
  /-- BIT_PERIOD_START: a new bit period begins on WLD (R21). -/
  | bitPeriodStart
  /-- BIT_SAMPLE_POINT: an ordinary bit is sampled at level `level` (R21, R36). -/
  | bitSamplePoint (level : Level)
  deriving DecidableEq, Repr

end Sys2Proof
end

