-- ==== Sys2Proof/Decode.lean ====
section
/-! DEFINITION. The decoder. No row of spec/opcode_table.json gives bits: the part takes commands from its port, its lines and its
timers, and none of them is spelled by a word of the table. What the part itself decodes is the command byte of a transaction. -/

namespace Sys2Proof

/-- The command that a transaction's command byte picks, with the parameter bytes clocked in after it: the codes of the command table
(R169), and UNKNOWN_COMMAND for every other byte (R172). A command without parameters takes none of them. -/
def portCommand (code : Byte) (params : List Byte) : Instr :=
  match code.toNat with
  | 0x01 => .readStatus
  | 0x02 => .readRoster
  | 0x03 => .readCounters
  | 0x04 => .clearCounters
  | 0x05 => .takeEvents
  | 0x06 => .setEventMask params
  | 0x10 => .configure params
  | 0x11 => .start
  | 0x12 => .reset
  | 0x13 => .readConfig
  | 0x20 => .putStripe params
  | 0x21 => .putFill params
  | 0x22 => .putPalette params
  | 0x23 => .putLook params
  | 0x24 => .endFrame
  | 0x25 => .withdraw
  | 0x26 => .flushQueue
  | _ => .unknownCommand code

/-- The command that a word of `nbits` bits spells by the table's bits: none, since no row gives bits. -/
def decodeTableWord (_nbits _w : Nat) : Option Instr := none

end Sys2Proof
end

