-- ==== Sys2Proof/Config.lean ====
section
/-! DEFINITION. What an implementation of the CZ460 fixes: the capacities the manual gives, and the free values it leaves open. -/

namespace Sys2Proof.Config

/-- Entries of the contributor roster (R75). -/
def rosterCapacity : Nat := 16

/-- Entries of the intake queue (R96). -/
def intakeCapacity : Nat := 4

/-- Entries of the missed list (R100). -/
def missedCapacity : Nat := 4

/-- Requests of the publish queue (R115). -/
def queueCapacity : Nat := 16

/-- Places of the staging store (R116). -/
def stagingPlaces : Nat := 4096

/-- Attempts of a request under one tag before it is dropped (R123, R127). -/
def maxAttempts : Nat := 4

/-- JOIN transmissions allowed after a START (R154). -/
def joinBudget : Nat := 4

/-- Pixel columns of every bank, whatever the panel (R136). -/
def bankColumns : Nat := 128

/-- Pixel rows of every bank, whatever the panel (R136). -/
def bankRows : Nat := 96

/-- Bytes before the check that the receive buffer stores: two header bytes, five STRIPE field bytes and 1536 payload bytes;
with the two check bytes this is the buffer's 1545 (R36). -/
def bufferBody : Nat := 1543

/-- Largest value of the frame timer, in 100 µs units (R54). -/
def timerLimit : Nat := 65535

/-- FREE VALUE (notes/assumptions/5.md): how many payload pixels of a STRIPE, or colours of a PALETTE, a commit had written when
a soft reset abandoned it (R113). The argument is `State.freeIndex`. The operation that uses it bounds it by the payload. -/
opaque abandonedProgress : Nat → Nat

/-- FREE VALUE (notes/assumptions/5.md): whether an abandoned FILL commit had written a panel position, since the order in which
a FILL visits its positions is not given (R9). The arguments are `State.freeIndex` and the bank address of the position. -/
opaque abandonedFillWrote : Nat → Nat → Bool

/-- FREE VALUE (notes/assumptions/6.md): whether a preparation pass of a layer had written a position when a soft reset cancelled
it (R143, R151). The arguments are `State.freeIndex`, the layer and the bank address of the position. -/
opaque cancelledPassWrote : Nat → Layer → Nat → Bool

end Sys2Proof.Config
end

