-- ==== Sys2Proof/Machine/State.lean ====
section
/-! DEFINITION. The state of one CZ460 station, block by block as 00_scope.md 2.1 lists them, as plain data; and the state after reset. -/

namespace Sys2Proof.Machine

/-! ## Memory -/

/-- An addressed store: (address, value) pairs in one canonical form (`Memory.wf`). An address that is not listed reads as the
store's default value. -/
abbrev Memory (α : Type) := List (Nat × α)

/-- The canonical form of a store: addresses strictly rising, no entry equal to the default value. -/
abbrev Memory.wf {α : Type} [DecidableEq α] (d : α) (m : Memory α) : Prop :=
  List.Pairwise (fun a b => a.1 < b.1) m ∧ ∀ c ∈ m, c.2 ≠ d

/-! ## Pictures and requests -/

/-- A rectangle on the canvas: origin and size (R2). -/
structure Rect where
  x : Nat
  y : Nat
  width : Nat
  height : Nat
  deriving DecidableEq, Repr

/-- The pixel formats of a STRIPE (01, table of section 1.6). -/
inductive Format where
  | idx8
  | rgb565
  | rgb666
  deriving DecidableEq, Repr

/-- One pixel or colour as a burst or the local port carries it, before expansion (R96, R116). -/
inductive RawPixel where
  | idx8 (index : BitVec 8)
  | rgb565 (value : BitVec 16)
  | rgb666 (color : Color)
  deriving DecidableEq, Repr

/-- The display attributes of a picture (R42, R145). -/
structure Look where
  overlayVisible : Bool
  invert : Bool
  dim : BitVec 4
  deriving DecidableEq, Repr

/-- Content that a commit writes: the fields of an intake entry but its tag (R96). -/
inductive Content where
  | stripe (layer : Layer) (format : Format) (rect : Rect) (slot : List RawPixel)
  | fill (layer : Layer) (rect : Rect) (color : Color) (transparent : Bool)
  | palette (first : Nat) (slot : List Color)
  deriving DecidableEq, Repr

/-- An entry of the intake queue (R96). -/
structure IntakeEntry where
  tag : Tag
  content : Content
  deriving DecidableEq, Repr

/-- The burst kinds (R33). -/
inductive Kind where
  | join
  | welcome
  | endFrame
  | withdraw
  | look
  | palette
  | fill
  | stripe
  deriving DecidableEq, Repr

/-- What a publish request asks for (R115). `start` is the place of the staging store where the payload's run begins (R116). -/
inductive RequestBody where
  | stripe (layer : Layer) (format : Format) (rect : Rect) (start : Nat)
  | fill (layer : Layer) (rect : Rect) (color : Color) (transparent : Bool)
  | palette (first : Nat) (count : Nat) (start : Nat)
  | look (look : Look)
  | endFrame
  | withdraw
  deriving DecidableEq, Repr

/-- A request of the publish queue (R115). -/
structure Request where
  body : RequestBody
  attempts : Nat
  deriving DecidableEq, Repr

/-! ## The configuration record -/

/-- The eight ways a panel is mounted, in the order of their codes 0–7 (R6). -/
inductive Orientation where
  | n
  | nm
  | r180
  | r180m
  | r90
  | r90m
  | r270
  | r270m
  deriving DecidableEq, Repr

/-- The bit rate codes 0–2 (R17). -/
inductive BitRate where
  | mbit1
  | mbit2
  | mbit4
  deriving DecidableEq, Repr

/-- The carry modes of a layer, codes 0–2 (R143). -/
inductive CarryMode where
  | keep
  | carry
  | clear
  deriving DecidableEq, Repr

/-- A valid configuration record (R169). -/
structure Record where
  station : StationNumber
  orientation : Orientation
  canvasWidth : Nat
  canvasHeight : Nat
  originX : Nat
  originY : Nat
  columns : Nat
  rows : Nat
  lineTime : Nat
  framePeriod : Nat
  holdMultiple : Nat
  bitRate : BitRate
  baseMode : CarryMode
  overlayMode : CarryMode
  deriving DecidableEq, Repr

/-! ## Join Controller (09) -/

/-- The station states (R153). -/
inductive StationState where
  | starting
  | unconfigured
  | configured
  | joining
  | listening
  | member
  | observer
  deriving DecidableEq, Repr

/-- Why a station is an OBSERVER (R163, R164). -/
inductive ObserverReason where
  | refused
  | duplicate
  deriving DecidableEq, Repr

/-- The admission mark, when it is set (09, table of section 9.1). -/
inductive Admission where
  | withTag
  | withoutTag
  deriving DecidableEq, Repr

/-- The Join Controller's items (09, table of section 9.1). -/
structure Join where
  station : StationState
  budget : Nat
  joinPending : Bool
  /-- the welcome-wait timer in 100 µs units; `none` while stopped -/
  welcomeWait : Option Nat
  /-- the quiet watch: true is 'seen low' -/
  quietLow : Bool
  /-- the admission mark; `none` is 'none' -/
  admission : Option Admission
  edgeCount : Nat
  reason : Option ObserverReason
  mismatch : Option StationNumber
  deriving DecidableEq, Repr

/-! ## Link Unit (02) -/

/-- The bus views of the Link Unit (R19). -/
inductive BusView where
  | off
  | waiting
  | idle
  | opening
  | burst
  deriving DecidableEq, Repr

/-- What the station's WLD output sends in the bit period that runs (R18, R26). -/
inductive Drive where
  | released
  | start
  | one
  | zero
  | stretch
  deriving DecidableEq, Repr

/-- The Link Unit's items (02). -/
structure Link where
  view : BusView
  /-- the idle detector, in bit periods: 0 when the count was restarted, 4 when the bus was found idle (R19) -/
  idleCount : Nat
  /-- a bit period has begun and its sample point is still to come (R21) -/
  bitOpen : Bool
  /-- completion has been reached: the next bit period is the refusal slot (R22) -/
  atSlot : Bool
  /-- the Receiver decided at completion to refuse the burst (R26, R93) -/
  refuse : Bool
  drive : Drive
  deriving DecidableEq, Repr

/-! ## Barrier Unit (04) -/

/-- The barrier phases of a MEMBER (R52); `none` outside MEMBER is the option's `none`. -/
inductive Phase where
  | filling
  | ready
  | stalled
  deriving DecidableEq, Repr

/-- The cadence record (R67). -/
structure Cadence where
  interval : Nat
  ownRelease : Nat
  forced : Bool
  damaged : Bool
  skipped : Bool
  deriving DecidableEq, Repr

/-- The Barrier Unit's items (04, table of section 4.1), and the confirmed level of the WLS input filter (R31, R32). -/
structure Barrier where
  phase : Option Phase
  /-- the WLS driver: true is low -/
  driverLow : Bool
  /-- a re-drive delay runs (R53) -/
  redrive : Bool
  /-- the frame timer in 100 µs units, 0–65535 (R54) -/
  timer : Nat
  timerRunning : Bool
  /-- the fill tag; `none` is UNKNOWN (R68) -/
  fillTag : Option Tag
  forced : Bool
  releaseTime : Nat
  openDamage : Bool
  faultWatch : Bool
  cadence : Cadence
  /-- the confirmed level of WLS; `none` until the filter has its first level (R32) -/
  confirmed : Option Level
  deriving DecidableEq, Repr

/-! ## Receiver (03, 06) -/

/-- An identity of the missed list: sender, kind and check value (R100). -/
structure Identity where
  sender : StationNumber
  kind : Kind
  check : BitVec 16
  deriving DecidableEq, Repr

/-- The roster part of a pending outcome (R94). -/
inductive RosterPart where
  /-- the sender's heard flag alone -/
  | heardOnly
  /-- the update of a current burst (R79–R83) -/
  | update
  /-- the removal of a WITHDRAW (R84) -/
  | withdraw
  deriving DecidableEq, Repr

/-- The content part of a pending outcome (R94). -/
inductive ContentPart where
  | nothing
  /-- an intake entry under reservation (R97) -/
  | reserved (entry : IntakeEntry)
  /-- a missed-list addition or, in OBSERVER, an observer drop (R99) -/
  | noRoom
  /-- a LOOK stage write (R110) -/
  | look (tag : Tag) (look : Look)
  deriving DecidableEq, Repr

/-- The outcome of the one burst between its completion and its slot result (R94). -/
structure PendingOutcome where
  identity : Identity
  roster : RosterPart
  content : ContentPart
  /-- a JOIN of another station whose digest equals this member's (R157) -/
  answersJoin : Bool
  deriving DecidableEq, Repr

/-- What the Publisher loses at an entry to OBSERVER, as it would be without that entry (R133; notes/assumptions/31.md). -/
structure LostQueue where
  queue : List Request
  stagingNext : Nat
  held : Bool
  welcomePending : Bool
  spaceWanted : Bool
  deriving DecidableEq, Repr

/-- A flip request (R137). -/
structure FlipRequest where
  tag : Option Tag
  damage : Bool
  heldCommit : Bool
  passEnd : Bool
  deriving DecidableEq, Repr

/-- The flip request as it would be without a completion (notes/assumptions/31.md). -/
inductive RequestBefore where
  /-- as it stands -/
  | same
  /-- none: the one that stands is of a swap edge that the station would not have taken -/
  | withdrawn
  /-- the one of a swap edge that the station has not taken -/
  | made (q : FlipRequest)
  deriving DecidableEq, Repr

/-- The blocks that a completion changed, as they would be without it (notes/assumptions/31.md). -/
structure BlocksBefore where
  join : Join
  barrier : Barrier
  /-- `none` where the completion took nothing from the Publisher -/
  lost : Option LostQueue
  request : RequestBefore
  deriving DecidableEq, Repr

/-- What a truncation takes back of a completion whose slot does not come (R28; notes/assumptions/31.md). -/
structure Undo where
  /-- the event flags pending that would not be so without the completion -/
  raised : BitVec 11
  /-- the event flags not pending that would be so without the completion -/
  owed : BitVec 11
  /-- how far each of these counters is above what it would be without the completion, modulo 65536 -/
  forced : BitVec 16
  stalls : BitVec 16
  checkFails : BitVec 16
  stale : BitVec 16
  /-- `none` where the completion changed neither the Join Controller nor the Barrier Unit -/
  blocks : Option BlocksBefore
  deriving DecidableEq, Repr

/-- The Receiver's items (R36; 06, table of section 6.1). -/
structure Receiver where
  /-- the receive buffer: the bytes before the check, as far as they are stored (R36) -/
  body : List Byte
  /-- the receive buffer: the check bytes (R36) -/
  check : List Byte
  /-- the bits of the byte being gathered, the first in the highest place used (R21) -/
  shift : Byte
  /-- how many bits of that byte have been sampled, 0–7 -/
  bitCount : Nat
  /-- how many bytes of the burst have been handed over -/
  received : Nat
  /-- the number of body bytes, once the fields that fix it have arrived (R36) -/
  bodyLength : Option Nat
  /-- the running check value (R36, R37) -/
  running : BitVec 16
  outcome : Option PendingOutcome
  /-- the MODEL's own field: between a completion and its slot, what a truncation takes back (R28; notes/assumptions/31.md) -/
  undo : Option Undo
  missed : List Identity
  overflow : Bool
  deriving DecidableEq, Repr

/-! ## Roster Unit (05) -/

/-- The states of a roster entry (R75). -/
inductive EntryState where
  | idle
  | active
  | ended
  | laggard
  deriving DecidableEq, Repr

/-- An entry of the contributor roster (R75). -/
structure RosterEntry where
  station : StationNumber
  state : EntryState
  overdue : Nat
  silence : Nat
  heard : Bool
  deriving DecidableEq, Repr

/-! ## Intake and Commit Engine (06) -/

/-- The Intake and Commit Engine's items. The reserved place is `Receiver.outcome`'s reservation. -/
structure Intake where
  queue : List IntakeEntry
  /-- the engine state: true is COMMITTING, and then the head of the queue is the entry being committed (R103) -/
  committing : Bool
  /-- the working palette, 256 colours; an unlisted index is black (R107, R112) -/
  palette : Memory Color
  deriving DecidableEq, Repr

/-! ## Publisher (07) -/

/-- Where the burst in transmission comes from (R120). -/
inductive TxSource where
  | join
  | welcome
  | request
  deriving DecidableEq, Repr

/-- The transmission record (R121): the burst, its tag, the edge-seen mark and the flush mark. -/
structure Transmission where
  source : TxSource
  bytes : List Byte
  tag : Option Tag
  edgeSeen : Bool
  flush : Bool
  deriving DecidableEq, Repr

/-- The Publisher's items (07, table of section 7.1). The engine state is a view of them (`State.engine`), since R119 gives it
from the station state, the fill tag, the queue, the transmission record and the END outcome, which is `held`. -/
structure Publisher where
  queue : List Request
  /-- the staging store; an unlisted place is `RawPixel.idx8 0` -/
  staging : Memory RawPixel
  /-- the place after the payload written last, where the next payload's run begins (R116) -/
  stagingNext : Nat
  /-- an END outcome has come and no swap edge since (R125) -/
  held : Bool
  transmission : Option Transmission
  welcomePending : Bool
  spaceWanted : Bool
  deriving DecidableEq, Repr

/-! ## Frame Store and Scan (08) -/

/-- The banks of a layer (R136). -/
inductive Bank where
  | a
  | b
  deriving DecidableEq, Repr

/-- The layer states (R137). -/
inductive LayerState where
  | steady
  | flipPending
  | preparing
  deriving DecidableEq, Repr

/-- The running scan unit: the row to be shown next and the banks taken for the pass (R146). -/
structure Scan where
  row : Nat
  base : Bank
  overlay : Bank
  deriving DecidableEq, Repr

/-- The panel row latched last: its number and the colours of columns 0 to C − 1 (R146). -/
structure PanelRow where
  row : Nat
  pixels : List Color
  deriving DecidableEq, Repr

/-- The Frame Store and Scan's items (08, table of section 8.1). A bank is addressed by row × 128 + column; an unlisted position
of a base bank is black and of an overlay bank transparent (R10, R150). -/
structure FrameStore where
  baseA : Memory Color
  baseB : Memory Color
  overlayA : Memory OverlayPixel
  overlayB : Memory OverlayPixel
  shownBase : Bank
  shownOverlay : Bank
  baseState : LayerState
  overlayState : LayerState
  request : Option FlipRequest
  /-- the MODEL's own field: a mark of damage for the frame that closed last is still to be made (R141; notes/assumptions/13.md) -/
  markDue : Bool
  /-- the LOOK stage: empty, or full with a tag and a look (R145) -/
  stage : Option (Tag × Look)
  look : Look
  /-- the scan unit; `none` while stopped (R146, R148) -/
  scan : Option Scan
  /-- the panel outputs of the row latched last; `none` while no row has been latched since the hard reset (R148) -/
  panel : Option PanelRow
  deriving DecidableEq, Repr

/-! ## Local Port (10) -/

/-- The transaction phases (R170). -/
inductive PortPhase where
  | waitHigh
  | deselected
  | command
  | parameters
  | response
  deriving DecidableEq, Repr

/-- The 14 counters, in the order READ COUNTERS returns them (R169, R183). -/
structure Counters where
  swaps : BitVec 16
  forced : BitVec 16
  stalls : BitVec 16
  damaged : BitVec 16
  sent : BitVec 16
  refusedTx : BitVec 16
  dropped : BitVec 16
  bitErrors : BitVec 16
  refusalsSent : BitVec 16
  checkFails : BitVec 16
  stale : BitVec 16
  truncated : BitVec 16
  rosterOverflow : BitVec 16
  portTruncated : BitVec 16
  deriving DecidableEq, Repr

/-- All counters at 0 (R176, R186). -/
def Counters.zero : Counters := ⟨0, 0, 0, 0, 0, 0, 0, 0, 0, 0, 0, 0, 0, 0⟩

/-- The Local Port's items (10, table of section 10.1) but the configuration record and the digest, which stand in `State`. -/
structure Port where
  /-- the level at the PSEL# pin -/
  psel : Level
  phase : PortPhase
  command : List Byte
  response : List Byte
  /-- the event flags, by the bits of R169 -/
  events : BitVec 11
  /-- the event mask, by the bits of R169 -/
  mask : BitVec 11
  counters : Counters
  deriving DecidableEq, Repr

/-! ## The station -/

/-- The state of one station. -/
structure State where
  /-- RST# is low, or the supply has not reached its rating: the hard reset is held (00_scope.md 4.6) -/
  resetHeld : Bool
  /-- the configuration record; `none` while it is invalid (R1, R186) -/
  record : Option Record
  /-- the wall digest; `none` while it is invalid (R39) -/
  digest : Option (BitVec 16)
  join : Join
  link : Link
  rx : Receiver
  roster : List RosterEntry
  intake : Intake
  barrier : Barrier
  pub : Publisher
  frame : FrameStore
  port : Port
  /-- the MODEL's own field: the number of the next free value (notes/assumptions/5.md, notes/assumptions/6.md) -/
  freeIndex : Nat
  /-- the MODEL's own field: the commands that wait, first in, first out (notes/assumptions/1.md) -/
  pending : List Instr
  deriving DecidableEq, Repr

/-- Why a step stops with a fault. The spec names no event that stops the part, so there is no constructor: no meaning faults. -/
inductive Fault where
  deriving DecidableEq, Repr

/-- Why a step is refused. -/
inductive Refusal where
  /-- Raised by an arm of `exec` whose command has no meaning yet; safe. No arm raises it now. -/
  | notModelled (mnemonic : String)
  deriving DecidableEq, Repr

/-! ## After reset -/

/-- The Join Controller after a hard reset (R167). -/
def Join.reset : Join :=
  { station := .starting, budget := 0, joinPending := false, welcomeWait := none, quietLow := false, admission := none,
    edgeCount := 0, reason := none, mismatch := none }

/-- The Link Unit after a hard reset (R30). -/
def Link.reset : Link :=
  { view := .off, idleCount := 0, bitOpen := false, atSlot := false, refuse := false, drive := .released }

/-- The Receiver after a hard reset (R112). The running check value is set at every confirmed START (R36). -/
def Receiver.reset : Receiver :=
  { body := [], check := [], shift := 0, bitCount := 0, received := 0, bodyLength := none, running := 0xFFFF, outcome := none,
    undo := none, missed := [], overflow := false }

/-- The Intake and Commit Engine after a hard reset (R112). -/
def Intake.reset : Intake := { queue := [], committing := false, palette := [] }

/-- The cadence record after either reset (R72, R73). -/
def Cadence.zero : Cadence := { interval := 0, ownRelease := 0, forced := false, damaged := false, skipped := false }

/-- The Barrier Unit after a hard reset (R72), its filter without a confirmed level (R32). -/
def Barrier.reset : Barrier :=
  { phase := none, driverLow := false, redrive := false, timer := 0, timerRunning := false, fillTag := none, forced := false,
    releaseTime := 0, openDamage := false, faultWatch := false, cadence := Cadence.zero, confirmed := none }

/-- The Publisher after a hard reset (R134). -/
def Publisher.reset : Publisher :=
  { queue := [], staging := [], stagingNext := 0, held := false, transmission := none, welcomePending := false,
    spaceWanted := false }

/-- The look after a hard reset (R150). -/
def Look.default : Look := { overlayVisible := true, invert := false, dim := 0 }

/-- The Frame Store after a hard reset (R150). -/
def FrameStore.reset : FrameStore :=
  { baseA := [], baseB := [], overlayA := [], overlayB := [], shownBase := .a, shownOverlay := .a, baseState := .steady,
    overlayState := .steady, request := none, markDue := false, stage := none, look := Look.default, scan := none, panel := none }

/-- The Local Port after a hard reset with PSEL# high (R170, R186). -/
def Port.reset : Port :=
  { psel := .high, phase := .deselected, command := [], response := [], events := 0, mask := 0x7FF, counters := Counters.zero }

/-- The station right after a hard reset has ended with PSEL# high: STARTING, with the start-up clear pass running
(notes/assumptions/3.md). -/
def State.reset : State :=
  { resetHeld := false, record := none, digest := none, join := Join.reset, link := Link.reset, rx := Receiver.reset,
    roster := [], intake := Intake.reset, barrier := Barrier.reset, pub := Publisher.reset, frame := FrameStore.reset,
    port := Port.reset, freeIndex := 0, pending := [] }

end Sys2Proof.Machine
end

