-- ==== Sys2Proof/Machine/Operands.lean ====
section
/-! DEFINITION. Operands: the fields of parameter bytes, the configuration record and its checks, rectangles and the canvas, the
viewport and the orientation mapping. -/

namespace Sys2Proof.Machine

/-! ## Bytes and fields -/

/-- Byte `i` of a byte string. Every use is guarded by the string's length; past the end it reads 0. -/
def byteAt (bs : List Byte) (i : Nat) : Byte := bs.getD i 0

/-- Byte `i` as a number. -/
def natAt (bs : List Byte) (i : Nat) : Nat := (byteAt bs i).toNat

/-- The big-endian field of bytes `i` and `i + 1` (00_scope.md 4.4). -/
def wordAt (bs : List Byte) (i : Nat) : Nat := 256 * natAt bs i + natAt bs (i + 1)

/-- A 16-bit value as two bytes, high byte first (00_scope.md 4.4). -/
def bytes16 (v : BitVec 16) : List Byte := [v.extractLsb' 8 8, v.extractLsb' 0 8]

/-- A number as a big-endian field of two bytes. -/
def natBytes16 (n : Nat) : List Byte := bytes16 (BitVec.ofNat 16 n)

/-- A component as a byte of its own (R35, R169). -/
def componentByte (c : BitVec 6) : Byte := c.setWidth 8

/-- A colour as three bytes: red, green, blue (R35). -/
def colorBytes (c : Color) : List Byte := [componentByte c.red, componentByte c.green, componentByte c.blue]

/-- The colour that three bytes of value at most 63 carry. -/
def colorOf (r g b : Byte) : Color := ⟨r.setWidth 6, g.setWidth 6, b.setWidth 6⟩

/-- Every byte is in the component range 0–63 (R43, R44, R45). -/
def componentsFit (bs : List Byte) : Bool := bs.all fun b => decide (b.toNat ≤ 63)

/-! ## Canvas, viewport, orientation (01) -/

/-- The rectangle is valid on a canvas (R2). -/
def Rect.fits (r : Rect) (canvasWidth canvasHeight : Nat) : Bool :=
  decide (r.x + r.width ≤ canvasWidth) && decide (r.y + r.height ≤ canvasHeight)

/-- A quarter rotation: orientation codes 4–7, in which the viewport is R wide and C high (R3). -/
def Orientation.turned : Orientation → Bool
  | .n | .nm | .r180 | .r180m => false
  | .r90 | .r90m | .r270 | .r270m => true

/-- The viewport's width (R3). -/
def Record.viewWidth (r : Record) : Nat := if r.orientation.turned then r.rows else r.columns

/-- The viewport's height (R3). -/
def Record.viewHeight (r : Record) : Nat := if r.orientation.turned then r.columns else r.rows

/-- The panel position (column, row) of the canvas pixel with viewport offsets `u` and `v` (R6). -/
def Record.panelPosition (r : Record) (u v : Nat) : Nat × Nat :=
  match r.orientation with
  | .n => (u, v)
  | .nm => (r.columns - 1 - u, v)
  | .r180 => (r.columns - 1 - u, r.rows - 1 - v)
  | .r180m => (u, r.rows - 1 - v)
  | .r90 => (v, r.rows - 1 - u)
  | .r90m => (v, u)
  | .r270 => (r.columns - 1 - v, u)
  | .r270m => (r.columns - 1 - v, r.rows - 1 - u)

/-- The bank address of a panel position: row × 128 + column (R136). -/
def bankAddress (column row : Nat) : Nat := row * Config.bankColumns + column

/-- The bank address of a canvas pixel, or `none` when it lies outside the viewport (R3, R6). -/
def Record.addressOf (r : Record) (cx cy : Nat) : Option Nat :=
  if r.originX ≤ cx ∧ cx < r.originX + r.viewWidth ∧ r.originY ≤ cy ∧ cy < r.originY + r.viewHeight then
    let p := r.panelPosition (cx - r.originX) (cy - r.originY)
    some (bankAddress p.1 p.2)
  else none

/-- The first column, the end column, the first row and the end row of a rectangle's intersection with the viewport (R7). -/
def Record.intersection (r : Record) (q : Rect) : Nat × Nat × Nat × Nat :=
  (max q.x r.originX, min (q.x + q.width) (r.originX + r.viewWidth),
   max q.y r.originY, min (q.y + q.height) (r.originY + r.viewHeight))

/-- The intersection of a rectangle with the viewport is not empty (R7). -/
def Record.touches (r : Record) (q : Rect) : Bool :=
  let i := r.intersection q
  decide (i.1 < i.2.1) && decide (i.2.2.1 < i.2.2.2)

/-- The canvas pixels of a rectangle given by first and end columns and rows, row by row. -/
def pixelsBetween (x0 x1 y0 y1 : Nat) : List (Nat × Nat) :=
  (List.range (y1 - y0)).flatMap fun j => (List.range (x1 - x0)).map fun i => (x0 + i, y0 + j)

/-- The bank addresses of a rectangle's intersection with the viewport (R7, R9). -/
def Record.intersectionAddresses (r : Record) (q : Rect) : List Nat :=
  let i := r.intersection q
  (pixelsBetween i.1 i.2.1 i.2.2.1 i.2.2.2).filterMap fun p => r.addressOf p.1 p.2

/-- A bank address is that of a position in use: column below C and row below R (R136). -/
def Record.inUse (r : Record) (a : Nat) : Bool :=
  decide (a % Config.bankColumns < r.columns) && decide (a / Config.bankColumns < r.rows)

/-! ## The configuration record (10) -/

/-- The orientation of a code (R169). -/
def orientationOf : Nat → Option Orientation
  | 0 => some .n
  | 1 => some .nm
  | 2 => some .r180
  | 3 => some .r180m
  | 4 => some .r90
  | 5 => some .r90m
  | 6 => some .r270
  | 7 => some .r270m
  | _ => none

/-- The code of an orientation (R169). -/
def Orientation.code : Orientation → Byte
  | .n => 0
  | .nm => 1
  | .r180 => 2
  | .r180m => 3
  | .r90 => 4
  | .r90m => 5
  | .r270 => 6
  | .r270m => 7

/-- The bit rate of a code (R17, R169). -/
def bitRateOf : Nat → Option BitRate
  | 0 => some .mbit1
  | 1 => some .mbit2
  | 2 => some .mbit4
  | _ => none

/-- The code of a bit rate (R17). -/
def BitRate.code : BitRate → Byte
  | .mbit1 => 0
  | .mbit2 => 1
  | .mbit4 => 2

/-- The carry mode of a code (R169). -/
def carryModeOf : Nat → Option CarryMode
  | 0 => some .keep
  | 1 => some .carry
  | 2 => some .clear
  | _ => none

/-- The code of a carry mode (R169). -/
def CarryMode.code : CarryMode → Byte
  | .keep => 0
  | .carry => 1
  | .clear => 2

/-- The field ranges of the record table (R169), the geometry (R4) and the scan-pass fit (R4, R173), for the fields that are not
codes. -/
def Record.valid (r : Record) : Bool :=
  decide (16 ≤ r.canvasWidth ∧ r.canvasWidth ≤ 4096) && decide (16 ≤ r.canvasHeight ∧ r.canvasHeight ≤ 4096) &&
  decide (r.originX ≤ 4095) && decide (r.originY ≤ 4095) &&
  decide (16 ≤ r.columns ∧ r.columns ≤ 128) && decide (16 ≤ r.rows ∧ r.rows ≤ 96) &&
  decide (20 ≤ r.lineTime ∧ r.lineTime ≤ 500) && decide (80 ≤ r.framePeriod ∧ r.framePeriod ≤ 1000) &&
  decide (2 ≤ r.holdMultiple ∧ r.holdMultiple ≤ 8) &&
  decide (r.originX + r.viewWidth ≤ r.canvasWidth) && decide (r.originY + r.viewHeight ≤ r.canvasHeight) &&
  decide (r.rows * r.lineTime ≤ r.framePeriod * 100)

/-- The record that 20 parameter bytes carry, when every check of CONFIGURE passes (R169, R173). -/
def recordOf (bs : List Byte) : Option Record :=
  match orientationOf (natAt bs 1), bitRateOf (natAt bs 17), carryModeOf (natAt bs 18), carryModeOf (natAt bs 19) with
  | some orientation, some bitRate, some baseMode, some overlayMode =>
    let r : Record :=
      { station := (byteAt bs 0).setWidth 5, orientation := orientation, canvasWidth := wordAt bs 2, canvasHeight := wordAt bs 4,
        originX := wordAt bs 6, originY := wordAt bs 8, columns := natAt bs 10, rows := natAt bs 11, lineTime := wordAt bs 12,
        framePeriod := wordAt bs 14, holdMultiple := natAt bs 16, bitRate := bitRate, baseMode := baseMode,
        overlayMode := overlayMode }
    if natAt bs 0 ≤ 31 ∧ r.valid = true then some r else none
  | _, _, _, _ => none

/-- The ten bytes of the wall-wide fields, in record order (R39). -/
def Record.wallBytes (r : Record) : List Byte :=
  natBytes16 r.canvasWidth ++ natBytes16 r.canvasHeight ++ natBytes16 r.framePeriod ++
    [BitVec.ofNat 8 r.holdMultiple, r.bitRate.code, r.baseMode.code, r.overlayMode.code]

/-- The 20 bytes of the record, as the CONFIGURE that set it carried them (R169, R177). -/
def Record.bytes (r : Record) : List Byte :=
  [r.station.setWidth 8, r.orientation.code] ++ natBytes16 r.canvasWidth ++ natBytes16 r.canvasHeight ++
    natBytes16 r.originX ++ natBytes16 r.originY ++ [BitVec.ofNat 8 r.columns, BitVec.ofNat 8 r.rows] ++
    natBytes16 r.lineTime ++ natBytes16 r.framePeriod ++
    [BitVec.ofNat 8 r.holdMultiple, r.bitRate.code, r.baseMode.code, r.overlayMode.code]

/-- The carry mode of a layer (R143). -/
def Record.mode (r : Record) : Layer → CarryMode
  | .base => r.baseMode
  | .overlay => r.overlayMode

/-! ## Parameter bytes of the content commands (10) -/

/-- The format of a code; 3 is not a format (01, table of section 1.6). -/
def formatOf : Nat → Option Format
  | 0 => some .idx8
  | 1 => some .rgb565
  | 2 => some .rgb666
  | _ => none

/-- The code of a format. -/
def Format.code : Format → BitVec 2
  | .idx8 => 0
  | .rgb565 => 1
  | .rgb666 => 2

/-- Bytes of one pixel (01, table of section 1.6). -/
def Format.bytesPerPixel : Format → Nat
  | .idx8 => 1
  | .rgb565 => 2
  | .rgb666 => 3

/-- The layer of a code. -/
def layerOf : Nat → Option Layer
  | 0 => some .base
  | 1 => some .overlay
  | _ => none

/-- The bit that names a layer in a burst (R10, R34). -/
def layerBit : Layer → Bool
  | .base => false
  | .overlay => true

/-- The shape of a PUT STRIPE: layer, format, width and height, when its nine field bytes have a valid shape (R171). -/
def stripeShape (ps : List Byte) : Option (Layer × Format × Nat × Nat) :=
  match layerOf (natAt ps 0), formatOf (natAt ps 1) with
  | some layer, some format =>
    let w := wordAt ps 6
    let h := natAt ps 8
    if 1 ≤ w ∧ w ≤ 512 ∧ 1 ≤ h ∧ h ≤ 16 ∧ w * h ≤ 512 then some (layer, format, w, h) else none
  | _, _ => none

/-- The count of a PUT PALETTE is 1–16 and first index + count is at most 256 (R171, R180). -/
def paletteShape (ps : List Byte) : Bool :=
  decide (1 ≤ natAt ps 1 ∧ natAt ps 1 ≤ 16) && decide (natAt ps 0 + natAt ps 1 ≤ 256)

/-- How many parameter bytes a PUT STRIPE has, as far as the bytes clocked in tell it (R171). -/
def stripeParams (ps : List Byte) : Nat :=
  if ps.length < 9 then 9 else
  match stripeShape ps with
  | some (_, format, w, h) => 9 + w * h * format.bytesPerPixel
  | none => 9

/-- How many parameter bytes a PUT PALETTE has, as far as the bytes clocked in tell it (R171). -/
def paletteParams (ps : List Byte) : Nat :=
  if ps.length < 2 then 2 else
  if paletteShape ps then 2 + 3 * natAt ps 1 else 2

/-- The pixels of an RGB565 payload: two bytes each, big-endian (01, table of section 1.6). -/
def rgb565Pixels : List Byte → List RawPixel
  | a :: b :: rest => .rgb565 (a ++ b) :: rgb565Pixels rest
  | _ => []

/-- The pixels of an RGB666 payload: three bytes each. -/
def rgb666Pixels : List Byte → List RawPixel
  | r :: g :: b :: rest => .rgb666 (colorOf r g b) :: rgb666Pixels rest
  | _ => []

/-- The pixels of a payload in a format, row-major (01, table of section 1.6). -/
def payloadPixels (format : Format) (bs : List Byte) : List RawPixel :=
  match format with
  | .idx8 => bs.map .idx8
  | .rgb565 => rgb565Pixels bs
  | .rgb666 => rgb666Pixels bs

/-- The colours of groups of three bytes (R35, R169). -/
def colorsOf : List Byte → List Color
  | r :: g :: b :: rest => colorOf r g b :: colorsOf rest
  | _ => []

/-- The bytes of a pixel as its format carries it. -/
def RawPixel.bytes : RawPixel → List Byte
  | .idx8 i => [i]
  | .rgb565 v => bytes16 v
  | .rgb666 c => colorBytes c

end Sys2Proof.Machine
end

