-- ==== Sys2Proof/Machine/Bursts.lean ====
section
/-! DEFINITION. Bursts: the check, the layout, the judgement of form, and the bytes that the station's own transmissions carry (03). -/

namespace Sys2Proof.Machine

/-! ## The check (R37) -/

/-- One shift of the check register. -/
def crcShift (r : BitVec 16) : BitVec 16 := if r.msb then (r <<< 1) ^^^ 0x1021 else r <<< 1

/-- One byte folded into the check register: exclusive OR into the high eight bits, then eight shifts. -/
def crcByte (r : BitVec 16) (b : Byte) : BitVec 16 :=
  crcShift (crcShift (crcShift (crcShift (crcShift (crcShift (crcShift (crcShift (r ^^^ (b ++ (0 : BitVec 8))))))))))

/-- The check of a byte string: initial value FFFFh. -/
def crc (bs : List Byte) : BitVec 16 := bs.foldl crcByte 0xFFFF

/-- A burst's bytes with its check after them, high byte first (R35). -/
def withCheck (bs : List Byte) : List Byte := bs ++ bytes16 (crc bs)

/-! ## Kinds and the arbitration field (R33) -/

/-- The kind code (R33). -/
def Kind.code : Kind → BitVec 3
  | .join => 0
  | .welcome => 1
  | .endFrame => 2
  | .withdraw => 3
  | .look => 4
  | .palette => 5
  | .fill => 6
  | .stripe => 7

/-- The kind of a kind code; every code names a kind (R33). -/
def kindOf (code : BitVec 3) : Kind :=
  match code.toNat with
  | 0 => .join
  | 1 => .welcome
  | 2 => .endFrame
  | 3 => .withdraw
  | 4 => .look
  | 5 => .palette
  | 6 => .fill
  | _ => .stripe

/-- The kinds that carry a tag (R33). -/
def Kind.tagged : Kind → Bool
  | .join | .withdraw => false
  | .welcome | .endFrame | .look | .palette | .fill | .stripe => true

/-- The arbitration field: kind code and station number (R33). -/
def arbitrationField (k : Kind) (n : StationNumber) : Byte := k.code ++ n

/-- The kind that byte 0 names. -/
def kindIn (b : Byte) : Kind := kindOf (b.extractLsb' 5 3)

/-- The sender that byte 0 names. -/
def senderIn (b : Byte) : StationNumber := b.extractLsb' 0 5

/-- Byte 1 of a tagged burst: the tag and the kind-specific bits (R34). -/
def tagByte (tag : Tag) (bits : BitVec 4) : Byte := tag ++ bits

/-- The tag in byte 1. -/
def tagIn (b : Byte) : Tag := b.extractLsb' 4 4

/-! ## Length (R36) -/

/-- The number of body bytes, when byte 0 alone fixes it. -/
def lengthAtByte0 (b0 : Byte) : Option Nat :=
  match kindIn b0 with
  | .join => some 2
  | .welcome | .endFrame | .withdraw => some 0
  | .look => some 1
  | .fill => some 9
  | .palette | .stripe => none

/-- Width and height of a STRIPE from bytes 5 and 6: 9 bits of width − 1, 4 bits of height − 1, 3 reserved bits (R35). -/
def stripeSize (b5 b6 : Byte) : Nat × Nat :=
  let v : BitVec 16 := b5 ++ b6
  ((v.extractLsb' 7 9).toNat + 1, (v.extractLsb' 3 4).toNat + 1)

/-- Bytes per pixel of a STRIPE's format bits; format 3 counts 3 (R36). -/
def formatBytes (b1 : Byte) : Nat :=
  match formatOf (b1.extractLsb' 1 2).toNat with
  | some f => f.bytesPerPixel
  | none => 3

/-- The number of body bytes of a burst whose first bytes are `bs`, once they fix it (R36): after byte 0, after byte 1 for a
PALETTE, after byte 6 for a STRIPE. -/
def fixedLength (bs : List Byte) : Option Nat :=
  if bs.length = 0 then none else
  match kindIn (byteAt bs 0) with
  | .palette => if bs.length < 2 then none else some (1 + 3 * (((byteAt bs 1).extractLsb' 0 4).toNat + 1))
  | .stripe =>
    if bs.length < 7 then none else
      let size := stripeSize (byteAt bs 5) (byteAt bs 6)
      some (5 + size.1 * size.2 * formatBytes (byteAt bs 1))
  | _ => lengthAtByte0 (byteAt bs 0)

/-! ## Form (R40–R46) -/

/-- What a well-formed burst carries beside its sender, kind and tag. -/
inductive BurstBody where
  | join (digest : BitVec 16)
  | welcome
  | endFrame
  | withdraw
  | look (look : Look)
  | content (content : Content)
  deriving DecidableEq, Repr

/-- A WELCOME or END: the kind-specific bits are reserved (R34, R41). -/
def formOfPlain (b1 : Byte) (body : BurstBody) : Option BurstBody := if b1.extractLsb' 0 4 = (0 : BitVec 4) then some body else none

/-- A LOOK: reserved bits clear and dim at most 15 (R34, R42). -/
def formOfLook (b1 b2 : Byte) : Option BurstBody :=
  if b1.extractLsb' 0 2 = (0 : BitVec 2) ∧ b2.toNat ≤ 15 then
    some (.look { overlayVisible := b1.getLsbD 3, invert := b1.getLsbD 2, dim := b2.setWidth 4 })
  else none

/-- A PALETTE: first index + count at most 256 and every colour byte at most 63 (R43). -/
def formOfPalette (bs : List Byte) : Option BurstBody :=
  let count := ((byteAt bs 1).extractLsb' 0 4).toNat + 1
  let first := natAt bs 2
  let colors := (bs.drop 3).take (3 * count)
  if first + count ≤ 256 ∧ componentsFit colors = true then some (.content (.palette first (colorsOf colors))) else none

/-- A FILL: reserved bits clear, rectangle valid on the canvas, colour bytes at most 63 (R44). -/
def formOfFill (canvasWidth canvasHeight : Nat) (bs : List Byte) : Option BurstBody :=
  let origin : BitVec 24 := byteAt bs 2 ++ byteAt bs 3 ++ byteAt bs 4
  let size : BitVec 24 := byteAt bs 5 ++ byteAt bs 6 ++ byteAt bs 7
  let rect : Rect :=
    { x := (origin.extractLsb' 12 12).toNat, y := (origin.extractLsb' 0 12).toNat,
      width := (size.extractLsb' 12 12).toNat + 1, height := (size.extractLsb' 0 12).toNat + 1 }
  let b1 := byteAt bs 1
  if b1.extractLsb' 0 2 = (0 : BitVec 2) ∧ rect.fits canvasWidth canvasHeight = true ∧
      componentsFit [byteAt bs 8, byteAt bs 9, byteAt bs 10] = true then
    some (.content (.fill (if b1.getLsbD 3 then .overlay else .base) rect
      (colorOf (byteAt bs 8) (byteAt bs 9) (byteAt bs 10)) (b1.getLsbD 2)))
  else none

/-- A STRIPE: size at most 512, rectangle valid on the canvas, a format, RGB666 bytes at most 63, reserved bits clear (R45). -/
def formOfStripe (canvasWidth canvasHeight : Nat) (bs : List Byte) : Option BurstBody :=
  let origin : BitVec 24 := byteAt bs 2 ++ byteAt bs 3 ++ byteAt bs 4
  let size := stripeSize (byteAt bs 5) (byteAt bs 6)
  let rect : Rect :=
    { x := (origin.extractLsb' 12 12).toNat, y := (origin.extractLsb' 0 12).toNat, width := size.1, height := size.2 }
  let b1 := byteAt bs 1
  match formatOf (b1.extractLsb' 1 2).toNat with
  | none => none
  | some format =>
    let payload := (bs.drop 7).take (size.1 * size.2 * format.bytesPerPixel)
    if b1.getLsbD 0 = false ∧ (byteAt bs 6).extractLsb' 0 3 = (0 : BitVec 3) ∧ size.1 * size.2 ≤ 512 ∧
        rect.fits canvasWidth canvasHeight = true ∧ (format = .rgb666 → componentsFit payload = true) then
      some (.content (.stripe (if b1.getLsbD 3 then .overlay else .base) format rect (payloadPixels format payload)))
    else none

/-- The judgement of form (R46): what a well-formed burst with these bytes before its check carries, or `none` for a malformed
one. -/
def formOf (canvasWidth canvasHeight : Nat) (bs : List Byte) : Option BurstBody :=
  let b1 := byteAt bs 1
  match kindIn (byteAt bs 0) with
  | .join => if b1 = 0 then some (.join (byteAt bs 2 ++ byteAt bs 3)) else none
  | .withdraw => if b1 = 0 then some .withdraw else none
  | .welcome => formOfPlain b1 .welcome
  | .endFrame => formOfPlain b1 .endFrame
  | .look => formOfLook b1 (byteAt bs 2)
  | .palette => formOfPalette bs
  | .fill => formOfFill canvasWidth canvasHeight bs
  | .stripe => formOfStripe canvasWidth canvasHeight bs

/-! ## The station's own bursts (R35, R178) -/

/-- Two 12-bit fields packed into three bytes (R35). -/
def pack12 (a b : Nat) : List Byte :=
  let v : BitVec 24 := BitVec.ofNat 12 a ++ BitVec.ofNat 12 b
  [v.extractLsb' 16 8, v.extractLsb' 8 8, v.extractLsb' 0 8]

/-- Width − 1 in 9 bits, height − 1 in 4 bits and three bits of 0, in two bytes (R35). -/
def packStripeSize (width height : Nat) : List Byte :=
  let v : BitVec 16 := BitVec.ofNat 9 (width - 1) ++ BitVec.ofNat 4 (height - 1) ++ (0 : BitVec 3)
  bytes16 v

/-- Four kind-specific bits, the most significant first (R34). -/
def bits4 (b3 b2 b1 b0 : Bool) : BitVec 4 :=
  BitVec.ofBool b3 ++ BitVec.ofBool b2 ++ BitVec.ofBool b1 ++ BitVec.ofBool b0

/-- The burst of a JOIN (R40). -/
def joinBytes (n : StationNumber) (digest : BitVec 16) : List Byte :=
  withCheck ([arbitrationField .join n, 0] ++ bytes16 digest)

/-- The burst of a WELCOME (R41). -/
def welcomeBytes (n : StationNumber) (tag : Tag) : List Byte :=
  withCheck [arbitrationField .welcome n, tagByte tag 0]

/-- The kind of a request (R115). -/
def RequestBody.kind : RequestBody → Kind
  | .stripe .. => .stripe
  | .fill .. => .fill
  | .palette .. => .palette
  | .look _ => .look
  | .endFrame => .endFrame
  | .withdraw => .withdraw

/-- The bytes before the check of a request's burst, with `payload` read from the staging store (R35, R178). -/
def RequestBody.bytes (n : StationNumber) (tag : Tag) (payload : List RawPixel) : RequestBody → List Byte
  | .stripe layer format rect _ =>
    [arbitrationField .stripe n,
     tagByte tag (bits4 (layerBit layer) (format.code.getLsbD 1) (format.code.getLsbD 0) false)] ++
      pack12 rect.x rect.y ++ packStripeSize rect.width rect.height ++ payload.flatMap RawPixel.bytes
  | .fill layer rect color transparent =>
    [arbitrationField .fill n, tagByte tag (bits4 (layerBit layer) transparent false false)] ++ pack12 rect.x rect.y ++
      pack12 (rect.width - 1) (rect.height - 1) ++ colorBytes color
  | .palette first count _ =>
    [arbitrationField .palette n, tagByte tag (BitVec.ofNat 4 (count - 1)), BitVec.ofNat 8 first] ++
      payload.flatMap RawPixel.bytes
  | .look l =>
    [arbitrationField .look n, tagByte tag (bits4 l.overlayVisible l.invert false false), l.dim.setWidth 8]
  | .endFrame => [arbitrationField .endFrame n, tagByte tag 0]
  | .withdraw => [arbitrationField .withdraw n, 0]

/-- The bit that a transmitter sends as bit `i` of a burst, counted from 0, each byte most significant bit first (R21, R35). -/
def sentBit (bs : List Byte) (i : Nat) : Bool := (byteAt bs (i / 8)).getLsbD (7 - i % 8)

end Sys2Proof.Machine
end

