-- ==== Sys2Proof/Machine/Flags.lean ====
section
/-! DEFINITION. Counters, event flags and PATN# of the Local Port (10, sections 10.7 and 10.8). -/

namespace Sys2Proof.Machine

/-- The names of the 14 counters (R169). -/
inductive Counter where
  | swaps
  | forced
  | stalls
  | damaged
  | sent
  | refusedTx
  | dropped
  | bitErrors
  | refusalsSent
  | checkFails
  | stale
  | truncated
  | rosterOverflow
  | portTruncated
  deriving DecidableEq, Repr

/-- The names of the 11 events, in the order of their bits (R169). -/
inductive Event where
  | shown
  | damage
  | overdue
  | stall
  | drop
  | space
  | roster
  | joined
  | refused
  | duplicate
  | mismatch
  deriving DecidableEq, Repr

/-- A counter counted once: a counter at 65535 stays there (R183). -/
def saturate (v : BitVec 16) : BitVec 16 := if v = 0xFFFF then v else v + 1

/-- The value of a counter. -/
def Counters.get (c : Counters) : Counter → BitVec 16
  | .swaps => c.swaps
  | .forced => c.forced
  | .stalls => c.stalls
  | .damaged => c.damaged
  | .sent => c.sent
  | .refusedTx => c.refusedTx
  | .dropped => c.dropped
  | .bitErrors => c.bitErrors
  | .refusalsSent => c.refusalsSent
  | .checkFails => c.checkFails
  | .stale => c.stale
  | .truncated => c.truncated
  | .rosterOverflow => c.rosterOverflow
  | .portTruncated => c.portTruncated

/-- Count a counter once (R183). -/
def Counters.bump (c : Counters) : Counter → Counters
  | .swaps => { c with swaps := saturate c.swaps }
  | .forced => { c with forced := saturate c.forced }
  | .stalls => { c with stalls := saturate c.stalls }
  | .damaged => { c with damaged := saturate c.damaged }
  | .sent => { c with sent := saturate c.sent }
  | .refusedTx => { c with refusedTx := saturate c.refusedTx }
  | .dropped => { c with dropped := saturate c.dropped }
  | .bitErrors => { c with bitErrors := saturate c.bitErrors }
  | .refusalsSent => { c with refusalsSent := saturate c.refusalsSent }
  | .checkFails => { c with checkFails := saturate c.checkFails }
  | .stale => { c with stale := saturate c.stale }
  | .truncated => { c with truncated := saturate c.truncated }
  | .rosterOverflow => { c with rosterOverflow := saturate c.rosterOverflow }
  | .portTruncated => { c with portTruncated := saturate c.portTruncated }

/-- The 14 counters in the order of READ COUNTERS (R169). -/
def Counters.toList (c : Counters) : List (BitVec 16) :=
  [c.swaps, c.forced, c.stalls, c.damaged, c.sent, c.refusedTx, c.dropped, c.bitErrors, c.refusalsSent, c.checkFails, c.stale,
   c.truncated, c.rosterOverflow, c.portTruncated]

/-- The bit of an event in TAKE EVENTS and SET EVENT MASK (R169). -/
def Event.bit : Event → BitVec 11
  | .shown => 0x001
  | .damage => 0x002
  | .overdue => 0x004
  | .stall => 0x008
  | .drop => 0x010
  | .space => 0x020
  | .roster => 0x040
  | .joined => 0x080
  | .refused => 0x100
  | .duplicate => 0x200
  | .mismatch => 0x400

/-- Count a counter of the station once (R183). -/
def State.count (s : State) (k : Counter) : State := { s with port.counters := s.port.counters.bump k }

/-- Raise an event: its flag becomes pending, whatever the mask (R184). -/
def State.raise (s : State) (e : Event) : State := { s with port.events := s.port.events ||| e.bit }

/-- Raise an event when a condition holds. -/
def State.raiseIf (s : State) (b : Bool) (e : Event) : State := if b then s.raise e else s

/-- Count a counter when a condition holds. -/
def State.countIf (s : State) (b : Bool) (k : Counter) : State := if b then s.count k else s

/-- PATN# is driven low: an enabled flag is pending (R185). -/
def State.patnLow (s : State) : Bool := (s.port.events &&& s.port.mask) != 0

end Sys2Proof.Machine
end

