-- ==== Sys2Proof/Machine/Ops.lean ====
section
/-! DEFINITION. Named operations over the stores, the banks, the staging store, the WLS driver and the levels of the blocks. -/

namespace Sys2Proof.Machine

/-! ## Stores -/

/-- The value at an address; an unlisted address reads as the default `d`. -/
def Memory.read {α : Type} (d : α) : Memory α → Nat → α
  | [], _ => d
  | (j, w) :: m, k => if j = k then w else Memory.read d m k

/-- Write one address, keeping the canonical form: writing the default removes the entry. -/
def Memory.write {α : Type} [DecidableEq α] (d : α) : Memory α → Nat → α → Memory α
  | [], k, v => if v = d then [] else [(k, v)]
  | (j, w) :: m, k, v =>
    if k < j then (if v = d then (j, w) :: m else (k, v) :: (j, w) :: m)
    else if k = j then (if v = d then m else (k, v) :: m)
    else (j, w) :: Memory.write d m k v

/-- Write a list of cells, the first first, so that the last write of an address prevails (R14). -/
def Memory.writeAll {α : Type} [DecidableEq α] (d : α) (m : Memory α) (cells : List (Nat × α)) : Memory α :=
  cells.foldl (fun m c => m.write d c.1 c.2) m

/-- Give every address that `p` selects the default value. -/
def Memory.clearWhere {α : Type} (p : Nat → Bool) (m : Memory α) : Memory α := m.filter fun c => !p c.1

/-- Give every address that `p` selects the value it has in `src`. -/
def Memory.copyWhere {α : Type} [DecidableEq α] (d : α) (p : Nat → Bool) (src m : Memory α) : Memory α :=
  (m.clearWhere p).writeAll d (src.filter fun c => p c.1)

/-! ## Banks (R136) -/

/-- The other bank of a pair. -/
def Bank.other : Bank → Bank
  | .a => .b
  | .b => .a

/-- A base bank. -/
def FrameStore.base (f : FrameStore) : Bank → Memory Color
  | .a => f.baseA
  | .b => f.baseB

/-- An overlay bank. -/
def FrameStore.overlay (f : FrameStore) : Bank → Memory OverlayPixel
  | .a => f.overlayA
  | .b => f.overlayB

/-- Replace the base fill bank: the bank the base selector does not name. -/
def FrameStore.setBaseFill (f : FrameStore) (m : Memory Color) : FrameStore :=
  match f.shownBase with
  | .a => { f with baseB := m }
  | .b => { f with baseA := m }

/-- Replace the overlay fill bank. -/
def FrameStore.setOverlayFill (f : FrameStore) (m : Memory OverlayPixel) : FrameStore :=
  match f.shownOverlay with
  | .a => { f with overlayB := m }
  | .b => { f with overlayA := m }

/-- The base fill bank. -/
def FrameStore.baseFill (f : FrameStore) : Memory Color := f.base f.shownBase.other

/-- The overlay fill bank. -/
def FrameStore.overlayFill (f : FrameStore) : Memory OverlayPixel := f.overlay f.shownOverlay.other

/-- The state of a layer (R137). -/
def FrameStore.layerState (f : FrameStore) : Layer → LayerState
  | .base => f.baseState
  | .overlay => f.overlayState

/-- Set the state of a layer. -/
def FrameStore.setLayer (f : FrameStore) (l : Layer) (st : LayerState) : FrameStore :=
  match l with
  | .base => { f with baseState := st }
  | .overlay => { f with overlayState := st }

/-! ## Limits (R55) -/

/-- The frame period P in 100 µs units; 0 without a record, when no timer runs. -/
def State.period (s : State) : Nat :=
  match s.record with
  | some r => r.framePeriod
  | none => 0

/-- The hold limit H = hold multiple × P. -/
def State.holdLimit (s : State) : Nat :=
  match s.record with
  | some r => r.holdMultiple * r.framePeriod
  | none => 0

/-- The stall limit H + P. -/
def State.stallLimit (s : State) : Nat := s.holdLimit + s.period

/-! ## The staging store (R116) -/

/-- Places of the staging store that a request's payload takes. -/
def RequestBody.places : RequestBody → Nat
  | .stripe _ _ rect _ => rect.width * rect.height
  | .palette _ count _ => count
  | .fill .. | .look _ | .endFrame | .withdraw => 0

/-- Places in use: the payloads of the queue's requests. -/
def Publisher.placesUsed (p : Publisher) : Nat := (p.queue.map fun q => q.body.places).sum

/-- The staging free count. -/
def Publisher.stagingFree (p : Publisher) : Nat := Config.stagingPlaces - p.placesUsed

/-- The `n` places of a run that begins at `start`, going round from the last place to the first. -/
def runPlaces (start n : Nat) : List Nat := (List.range n).map fun i => (start + i) % Config.stagingPlaces

/-- The payload of a request, read from the staging store. -/
def Publisher.payloadOf (p : Publisher) : RequestBody → List RawPixel
  | .stripe _ _ rect start => (runPlaces start (rect.width * rect.height)).map (Memory.read (.idx8 0) p.staging)
  | .palette _ count start => (runPlaces start count).map (Memory.read (.idx8 0) p.staging)
  | .fill .. | .look _ | .endFrame | .withdraw => []

/-! ## Views of the blocks -/

/-- The Publisher's engine states (R119). -/
inductive Engine where
  | blocked
  | idle
  | contending
  | sending
  | held
  deriving DecidableEq, Repr

/-- The burst in transmission is the queue head's. -/
def Publisher.sendingRequest (p : Publisher) : Bool :=
  match p.transmission with
  | some t => decide (t.source = .request)
  | none => false

/-- The engine state, from the table of R119. -/
def State.engine (s : State) : Engine :=
  if s.join.station ≠ .member ∨ s.barrier.fillTag = none then .blocked
  else if s.pub.sendingRequest then .sending
  else if s.pub.held then .held
  else if s.pub.queue = [] then .idle
  else .contending

/-- A place of the intake queue is reserved for the pending outcome (R97). -/
def Receiver.reserved (r : Receiver) : Bool :=
  match r.outcome with
  | some o => match o.content with
    | .reserved _ => true
    | _ => false
  | none => false

/-- The station state is LISTENING or MEMBER: the states in which a station refuses (R26, R93). -/
def StationState.refuses : StationState → Bool
  | .listening | .member => true
  | .starting | .unconfigured | .configured | .joining | .observer => false

/-- Readiness condition 2: every entry that is not LAGGARD is ENDED (R56, R89). -/
def contributorsDone (roster : List RosterEntry) : Bool :=
  roster.all fun e => decide (e.state = .laggard) || decide (e.state = .ended)

/-- Readiness condition 4: both layers STEADY and no flip request standing (R56, R137). -/
def FrameStore.settled (f : FrameStore) : Bool :=
  decide (f.baseState = .steady) && decide (f.overlayState = .steady) && f.request.isNone

/-- Readiness condition 5 (R56). -/
def State.publishingDone (s : State) : Bool :=
  match s.engine with
  | .blocked | .idle | .held => true
  | .contending | .sending => false

/-- Readiness: the five conditions of R56. -/
def State.ready (s : State) : Bool :=
  decide (s.period ≤ s.barrier.timer) && contributorsDone s.roster && (s.intake.queue.isEmpty && !s.intake.committing) &&
    s.frame.settled && s.publishingDone

/-! ## The WLS driver (R53) -/

/-- Release WLS; the fault watch becomes clear with the release (R53, R65). -/
def Barrier.release (b : Barrier) : Barrier := { b with driverLow := false, faultWatch := false }

end Sys2Proof.Machine
end

