-- ==== Sys2Proof/Machine/Frames.lean ====
section
/-! DEFINITION. The Frame Store and Scan: preparation passes, the flip, the scan and compositing (08). -/

namespace Sys2Proof.Machine

/-! ## Preparation passes (R143) -/

/-- Write the fill bank of a layer as its carry mode says, at the addresses that `p` selects. -/
def FrameStore.prepare (f : FrameStore) (mode : CarryMode) (l : Layer) (p : Nat → Bool) : FrameStore :=
  match mode, l with
  | .keep, _ => f
  | .carry, .base => f.setBaseFill (Memory.copyWhere Color.black p (f.base f.shownBase) f.baseFill)
  | .carry, .overlay => f.setOverlayFill (Memory.copyWhere OverlayPixel.clear p (f.overlay f.shownOverlay) f.overlayFill)
  | .clear, .base => f.setBaseFill (f.baseFill.clearWhere p)
  | .clear, .overlay => f.setOverlayFill (f.overlayFill.clearWhere p)

/-- The state a layer reaches at the end of its pass (R138, R143). -/
def FrameStore.afterPass (f : FrameStore) : LayerState := if f.request.isSome then .flipPending else .steady

/-- A layer enters PREPARING; a KEEP pass ends at the moment it begins (R143). -/
def FrameStore.beginPass (f : FrameStore) (mode : CarryMode) (l : Layer) : FrameStore :=
  match mode with
  | .keep => f.setLayer l f.afterPass
  | .carry | .clear => f.setLayer l .preparing

/-- Both layers begin the passes of their carry modes (R140, R144). -/
def FrameStore.beginPasses (f : FrameStore) (r : Record) : FrameStore :=
  (f.beginPass (r.mode .base) .base).beginPass (r.mode .overlay) .overlay

/-- The end of a layer's pass: the fill bank stands as the mode leaves it, and the layer leaves PREPARING (R143). -/
def FrameStore.endPass (f : FrameStore) (r : Record) (l : Layer) : FrameStore :=
  (f.prepare (r.mode l) l r.inUse).setLayer l f.afterPass

/-- A soft reset cancels a running pass of a layer: the positions written by then stay written, and which they are is the free
value `Config.cancelledPassWrote` (R143, R151). -/
def FrameStore.cancelPass (f : FrameStore) (r : Record) (l : Layer) (free : Nat) : FrameStore :=
  if f.layerState l = .preparing then f.prepare (r.mode l) l fun a => r.inUse a && Config.cancelledPassWrote free l a else f

/-! ## The flip (R139, R140, R145) -/

/-- A new pass at row 0 on the banks the selectors name (R146). -/
def FrameStore.newPass (f : FrameStore) : Scan := { row := 0, base := f.shownBase, overlay := f.shownOverlay }

/-- The current look after a flip that shows the frame of tag `t` (R145). -/
def FrameStore.lookAfter (f : FrameStore) (t : Option Tag) : Look :=
  match f.stage with
  | some (tag, l) => if t = some tag then l else f.look
  | none => f.look

/-- A flip request stands and the three conditions of R139 hold. -/
def FrameStore.flipDue (f : FrameStore) : Bool :=
  match f.request with
  | some q => q.passEnd && !q.heldCommit && decide (f.baseState = .flipPending) && decide (f.overlayState = .flipPending)
  | none => false

/-- The Frame Store after the flip that the request `q` asked for (R140). -/
def FrameStore.flip (f : FrameStore) (r : Record) (q : FlipRequest) : FrameStore :=
  let g : FrameStore :=
    { f with shownBase := f.shownBase.other, shownOverlay := f.shownOverlay.other, look := f.lookAfter q.tag, stage := none,
             request := none }
  { g with scan := some g.newPass }.beginPasses r

/-- Make the flip when it is due, raising SHOWN, and DAMAGE when the damage note is set (R139, R140, R141). -/
def State.tryFlip (s : State) : State :=
  match s.record, s.frame.request with
  | some r, some q =>
    if s.frame.flipDue then
      ({ s with frame := s.frame.flip r q }.raise .shown).raiseIf q.damage .damage
    else s
  | _, _ => s

/-- The pass that ran has ended: the pass-end mark of a standing request is set (R139, R146). -/
def FrameStore.passEnded (f : FrameStore) : FrameStore :=
  match f.request with
  | some q => { f with request := some { q with passEnd := true } }
  | none => f

/-- The commit in progress has ended: the held commit mark of a standing request is clear (R137). -/
def FrameStore.commitEnded (f : FrameStore) : FrameStore :=
  match f.request with
  | some q => { f with request := some { q with heldCommit := false } }
  | none => f

/-- A flip request that stands: a layer that is STEADY waits for its flip (R138). -/
def FrameStore.stand (f : FrameStore) (q : FlipRequest) : FrameStore :=
  let pend (st : LayerState) : LayerState := match st with
    | .steady | .flipPending => .flipPending
    | .preparing => .preparing
  { f with request := some q, baseState := pend f.baseState, overlayState := pend f.overlayState }

/-- The swap edge at the Frame Store, for the closing tag, with a commit in progress or not: a request is made with its damage note
clear, or the standing one is kept (R138, R142). The marks of the closing frame follow (`State.markDamage`). -/
def FrameStore.edge (f : FrameStore) (closing : Option Tag) (committing : Bool) : FrameStore :=
  f.stand (f.request.getD { tag := closing, damage := false, heldCommit := committing, passEnd := false })

/-- A mark of damage for a frame that has closed: it sets the damage note of the standing flip request; made after the flip that
showed the frame, when no request stands, it raises DAMAGE at once (R141). -/
def State.markDamage (s : State) : State :=
  match s.frame.request with
  | some q => { s with frame.request := some { q with damage := true } }
  | none => s.raise .damage

/-- The mark of damage that the last edge left to make is made, after what the moment led to: when the flip that shows the frame has
come first, DAMAGE is raised at once (R141; notes/assumptions/13.md). -/
def State.makeMarks (s : State) : State :=
  if s.frame.markDue then { s with frame.markDue := false }.markDamage else s

/-- The flip request of an edge that is taken back does not stand: a layer that waits for its flip is STEADY again (R28, R138). -/
def FrameStore.withdrawRequest (f : FrameStore) : FrameStore :=
  let back (st : LayerState) : LayerState := match st with
    | .steady | .flipPending => .steady
    | .preparing => .preparing
  { f with request := none, markDue := false, baseState := back f.baseState, overlayState := back f.overlayState }

/-! ## The scan (R146, R147) -/

/-- A component inverted, when invert is set (R147, step 2). -/
def invertComponent (invert : Bool) (c : BitVec 6) : BitVec 6 := if invert then 63 - c else c

/-- A component dimmed: c × (16 − dim) ÷ 16, rounded down (R147, step 3). -/
def dimComponent (dim : BitVec 4) (c : BitVec 6) : BitVec 6 := BitVec.ofNat 6 (c.toNat * (16 - dim.toNat) / 16)

/-- A panel pixel from a base pixel and an overlay pixel under a look (R147). -/
def composite (l : Look) (base : Color) (overlay : OverlayPixel) : Color :=
  let c := if l.overlayVisible && overlay.isOpaque then overlay.color else base
  let f (x : BitVec 6) : BitVec 6 := dimComponent l.dim (invertComponent l.invert x)
  ⟨f c.red, f c.green, f c.blue⟩

/-- The panel row that the scan shows: the C pixels of the row, composited from the banks taken for the pass (R146). -/
def FrameStore.rowShown (f : FrameStore) (r : Record) (sc : Scan) : PanelRow :=
  { row := sc.row,
    pixels := (List.range r.columns).map fun c =>
      composite f.look (Memory.read Color.black (f.base sc.base) (bankAddress c sc.row))
        (Memory.read OverlayPixel.clear (f.overlay sc.overlay) (bankAddress c sc.row)) }

/-- The end of the line time of row R − 1: the row is latched, the pass ends, and a new pass begins (R146). -/
def FrameStore.lastRow (f : FrameStore) (r : Record) (sc : Scan) : FrameStore :=
  { f.passEnded with panel := some (f.rowShown r sc), scan := some f.newPass }

/-! ## The panel outputs (R146, R148) -/

/-- The panel outputs at one moment: PR, PG and PB, PCOL, PROW, PBLK active, PLAT active. -/
structure PanelPins where
  color : Color
  column : BitVec 7
  row : BitVec 7
  blank : Bool
  latch : Bool
  deriving DecidableEq, Repr

/-- The panel blanked without a scan: PBLK active, PR, PG, PB, PCOL and PROW all 0, PLAT inactive (R148). The rule gives these values
for STARTING; in UNCONFIGURED, which it calls blanked, they stay (notes/assumptions/21.md). -/
def PanelPins.blanked : PanelPins := { color := Color.black, column := 0, row := 0, blank := true, latch := false }

/-- The panel outputs over one line time, in order: the C pixels of the row in column order with their column and row; then PBLK
active, one pulse of PLAT, and PBLK released (R146). The colour, column and row outputs keep the last pixel's values while PBLK is
active (notes/assumptions/21.md). -/
def FrameStore.lineOutputs (f : FrameStore) (r : Record) (sc : Scan) : List PanelPins :=
  let shown := f.rowShown r sc
  let placed := shown.pixels.zipIdx.map fun c =>
    ({ color := c.1, column := BitVec.ofNat 7 c.2, row := BitVec.ofNat 7 shown.row, blank := false, latch := false } : PanelPins)
  let last := placed.getLastD PanelPins.blanked
  placed ++ [{ last with blank := true }, { last with blank := true, latch := true }, { last with blank := true },
             { last with blank := false }]

/-- The panel outputs over the line time that runs; blanked throughout while the scan unit is stopped (R146, R148). -/
def State.panelOutputs (s : State) : List PanelPins :=
  match s.record, s.frame.scan with
  | some r, some sc => s.frame.lineOutputs r sc
  | _, _ => [PanelPins.blanked]

/-- The panel is blanked: the scan unit is stopped (R148). -/
def State.panelBlanked (s : State) : Bool := s.frame.scan.isNone

end Sys2Proof.Machine
end

