-- ==== Sys2Proof/Machine/Commits.lean ====
section
/-! DEFINITION. The Intake and Commit Engine: eligibility, what a commit writes, its end and its abandoning (01, 06). -/

namespace Sys2Proof.Machine

/-! ## Expansion (R11, R12, R13) -/

/-- A 5-bit red or blue expanded to 6 bits: twice the value plus the value divided by 16 (R12). -/
def expand5 (v : BitVec 5) : BitVec 6 := BitVec.ofNat 6 (2 * v.toNat + v.toNat / 16)

/-- The colour that a payload pixel expands to through a palette (R11, R12). -/
def expand (palette : Memory Color) : RawPixel → Color
  | .idx8 i => Memory.read Color.black palette i.toNat
  | .rgb565 v => ⟨expand5 (v.extractLsb' 11 5), v.extractLsb' 5 6, expand5 (v.extractLsb' 0 5)⟩
  | .rgb666 c => c

/-- The overlay pixel that a payload pixel writes: an IDX8 value 0 is transparent, every other pixel opaque (R13). -/
def expandOverlay (palette : Memory Color) (p : RawPixel) : OverlayPixel :=
  if p = .idx8 0 then OverlayPixel.clear else ⟨expand palette p, true⟩

/-! ## What a commit writes (R8, R9, R105, R106, R107) -/

/-- The cells of a STRIPE's payload that fall inside the viewport, in row-major order: bank address and payload pixel (R8). -/
def stripeCells (r : Record) (q : Rect) (slot : List RawPixel) : List (Nat × RawPixel) :=
  (slot.zipIdx).filterMap fun c =>
    match r.addressOf (q.x + c.2 % q.width) (q.y + c.2 / q.width) with
    | some a => some (a, c.1)
    | none => none

/-- A STRIPE commit over the payload pixels `slot` (R105). -/
def FrameStore.writeStripe (f : FrameStore) (r : Record) (palette : Memory Color) (l : Layer) (q : Rect) (slot : List RawPixel) :
    FrameStore :=
  match l with
  | .base =>
    f.setBaseFill (f.baseFill.writeAll Color.black ((stripeCells r q slot).map fun c => (c.1, expand palette c.2)))
  | .overlay =>
    f.setOverlayFill
      (f.overlayFill.writeAll OverlayPixel.clear ((stripeCells r q slot).map fun c => (c.1, expandOverlay palette c.2)))

/-- A FILL commit over the addresses of its intersection that `p` selects (R106). -/
def FrameStore.writeFill (f : FrameStore) (r : Record) (l : Layer) (q : Rect) (color : Color) (transparent : Bool)
    (p : Nat → Bool) : FrameStore :=
  let at_ := (r.intersectionAddresses q).filter p
  match l with
  | .base => f.setBaseFill (f.baseFill.writeAll Color.black (at_.map fun a => (a, color)))
  | .overlay =>
    let v : OverlayPixel := if transparent then OverlayPixel.clear else ⟨color, true⟩
    f.setOverlayFill (f.overlayFill.writeAll OverlayPixel.clear (at_.map fun a => (a, v)))

/-- The working palette after the colours of `slot`, the first at entry `first` (R107). -/
def writePalette (palette : Memory Color) (first : Nat) (slot : List Color) : Memory Color :=
  Memory.writeAll Color.black palette (slot.zipIdx.map fun c => (first + c.2, c.1))

/-! ## Eligibility and the beginning of a commit (R103) -/

/-- An entry may be taken by the engine (R103). -/
def Content.eligible (f : FrameStore) : Content → Bool
  | .stripe l .. => decide (f.layerState l = .steady)
  | .fill l .. => decide (f.layerState l = .steady)
  | .palette .. => true

/-- The engine takes the head entry when it is IDLE and the head is eligible (R103). -/
def State.beginCommit (s : State) : State :=
  match s.intake.queue with
  | e :: _ =>
    if !s.intake.committing && e.content.eligible s.frame then { s with intake.committing := true } else s
  | [] => s

/-- The end of the commit of the head entry: the entry is removed, the engine is IDLE, and the held commit mark clears (R104,
R137). The writes have been made. -/
def State.finishCommit (s : State) : State :=
  { s with intake.queue := s.intake.queue.tail, intake.committing := false, frame := s.frame.commitEnded }

/-! ## Abandoning a commit (R113) -/

/-- A soft reset abandons the commit in progress: what it had written stays. How far it had come is a free value (R9, R113). -/
def State.abandonCommit (s : State) : State :=
  match s.record, s.intake.committing, s.intake.queue with
  | some r, true, e :: _ =>
    match e.content with
    | .stripe l _ q slot =>
      { s with frame := s.frame.writeStripe r s.intake.palette l q (slot.take (Config.abandonedProgress s.freeIndex)) }
    | .fill l q color transparent =>
      { s with frame := s.frame.writeFill r l q color transparent (Config.abandonedFillWrote s.freeIndex) }
    | .palette first slot =>
      { s with intake.palette := writePalette s.intake.palette first (slot.take (Config.abandonedProgress s.freeIndex)) }
  | _, _, _ => s

end Sys2Proof.Machine
end

