-- ==== Sys2Proof/Machine/RosterUnit.lean ====
section
/-! DEFINITION. The Roster Unit: what a burst does to the roster at its slot result, and aging at the swap edge (05). -/

namespace Sys2Proof.Machine

/-- The change of an entry on a current burst of a kind from its station (R81–R83). -/
def RosterEntry.onBurst (e : RosterEntry) (k : Kind) : RosterEntry :=
  match k with
  | .stripe | .fill | .palette | .look =>
    match e.state with
    | .idle | .active => { e with state := .active }
    | .ended => e
    | .laggard => { e with silence := 0 }
  | .endFrame => { e with state := .ended, overdue := 0, silence := 0 }
  | .welcome | .join | .withdraw => e

/-- The entry that a newcomer's burst adds (R79), or `none` for a kind that adds nothing. -/
def newEntry (n : StationNumber) : Kind → Option RosterEntry
  | .stripe | .fill | .palette | .look => some { station := n, state := .active, overdue := 0, silence := 0, heard := true }
  | .endFrame => some { station := n, state := .ended, overdue := 0, silence := 0, heard := true }
  | .welcome | .join | .withdraw => none

/-- The highest silence count of the LAGGARD entries. -/
def highestSilence (roster : List RosterEntry) : Nat :=
  roster.foldl (fun m e => if e.state = .laggard then max m e.silence else m) 0

/-- The LAGGARD to evict: the highest silence count, of those the nearest to the front (R80). -/
def evictee (roster : List RosterEntry) : Option RosterEntry :=
  roster.find? fun e => decide (e.state = .laggard) && decide (e.silence = highestSilence roster)

/-- What a change of the roster reports to the Local Port: the ROSTER event and the ROSTER_OVERFLOW count (R90). -/
structure RosterChange where
  roster : List RosterEntry
  event : Bool
  overflow : Bool
  deriving DecidableEq, Repr

/-- Add an entry for a newcomer (R79, R80). -/
def addEntry (roster : List RosterEntry) (e : RosterEntry) : RosterChange :=
  if roster.length < Config.rosterCapacity then ⟨roster ++ [e], true, false⟩
  else match evictee roster with
    | some v => ⟨roster.filter (fun x => decide (x.station ≠ v.station)) ++ [e], true, false⟩
    | none => ⟨roster, true, true⟩

/-- Whether a station has an entry. -/
def hasEntry (roster : List RosterEntry) (n : StationNumber) : Bool := roster.any fun e => decide (e.station = n)

/-- The roster on a current burst of kind `k` from station `n` (R79–R83). -/
def rosterOnBurst (roster : List RosterEntry) (n : StationNumber) (k : Kind) : RosterChange :=
  if hasEntry roster n then ⟨roster.map fun e => if e.station = n then e.onBurst k else e, false, false⟩
  else match newEntry n k with
    | some e => addEntry roster e
    | none => ⟨roster, false, false⟩

/-- The removal of a WITHDRAW's sender (R84). -/
def rosterOnWithdraw (roster : List RosterEntry) (n : StationNumber) : RosterChange :=
  ⟨roster.filter fun e => decide (e.station ≠ n), hasEntry roster n, false⟩

/-- Set the heard flag of a station's entry (R78). -/
def markHeard (roster : List RosterEntry) (n : StationNumber) : List RosterEntry :=
  roster.map fun e => if e.station = n then { e with heard := true } else e

/-- An entry aged at a swap edge, before its heard flag is cleared; `none` when it is removed (R86). -/
def RosterEntry.aged (e : RosterEntry) : Option RosterEntry :=
  match e.state with
  | .ended => some { e with state := .idle }
  | .idle | .active =>
    if e.overdue < 2 then some { e with state := .idle, overdue := e.overdue + 1 }
    else some { e with state := .laggard, overdue := 3, silence := 0 }
  | .laggard =>
    if e.heard then some { e with silence := 0 }
    else if e.silence < 7 then some { e with silence := e.silence + 1 }
    else none

/-- Aging an entry raises ROSTER: it becomes LAGGARD or is removed (R86). -/
def RosterEntry.agingShows (e : RosterEntry) : Bool :=
  match e.state with
  | .ended => false
  | .idle | .active => decide (¬ e.overdue < 2)
  | .laggard => !e.heard && decide (¬ e.silence < 7)

/-- The roster aged at a swap edge, with every heard flag cleared after it (R86, R88). -/
def ageRoster (roster : List RosterEntry) : RosterChange :=
  ⟨(roster.filterMap RosterEntry.aged).map fun e => { e with heard := false }, roster.any RosterEntry.agingShows, false⟩

/-- Put a changed roster in place and report it (R90). -/
def State.withRoster (s : State) (c : RosterChange) : State :=
  ({ s with roster := c.roster }.raiseIf c.event .roster).countIf c.overflow .rosterOverflow

/-- A roster entry's three bytes (R91). -/
def RosterEntry.bytes (e : RosterEntry) : List Byte :=
  let code : BitVec 2 := match e.state with
    | .idle => 0
    | .active => 1
    | .ended => 2
    | .laggard => 3
  [e.station.setWidth 8, BitVec.ofBool e.heard ++ (0 : BitVec 5) ++ code, BitVec.ofNat 4 e.overdue ++ BitVec.ofNat 4 e.silence]

end Sys2Proof.Machine
end

