-- ==== Sys2Proof/Machine/Stations.lean ====
section
/-! DEFINITION. Changes of station state: the cut, entry to OBSERVER and to LISTENING, founding, the soft reset and the hard reset
(02, 04, 07, 09). -/

namespace Sys2Proof.Machine

/-- A cut: the station's own driving of WLD ends at once and the transmission record is emptied; the report counts nothing (R29,
R132). -/
def State.cut (s : State) : State :=
  { s with link.drive := .released, link.refuse := false, pub.transmission := none }

/-- The Publisher emptied at a soft reset or at entry to OBSERVER: queue, staging and marks go without DROPPED, DROP or SPACE
(R133, R134). -/
def Publisher.emptied (p : Publisher) : Publisher :=
  { p with queue := [], held := false, transmission := none, welcomePending := false, spaceWanted := false }

/-- The Barrier Unit of a station that enters OBSERVER: phase none, WLS released, forced flag and release time cleared. The timer
goes on from MEMBER and starts at 0 from JOINING and LISTENING; the tag, the damage mark and the cadence record are kept (R54,
R68, R71). -/
def Barrier.toObserver (b : Barrier) (fromMember : Bool) : Barrier :=
  { b.release with phase := none, redrive := false, forced := false, releaseTime := 0,
                   timer := if fromMember then b.timer else 0, timerRunning := true }

/-- Entry to OBSERVER, from JOINING, LISTENING or MEMBER (R133, R163, R164). -/
def State.enterObserver (s : State) (reason : ObserverReason) : State :=
  let t := s.cut
  let u : State :=
    { t with
      join := { t.join with station := .observer, joinPending := false, welcomeWait := none, quietLow := false, admission := none,
                            reason := some reason }
      barrier := t.barrier.toObserver (decide (s.join.station = .member))
      pub := t.pub.emptied }
  u.raise (match reason with
    | .refused => .refused
    | .duplicate => .duplicate)

/-- The finding of a duplicate station number, at completion (R50, R164). -/
def State.findDuplicate (s : State) : State :=
  match s.join.station with
  | .joining | .listening | .member => s.enterObserver .duplicate
  | .starting | .unconfigured | .configured | .observer => s

/-- The station's own JOIN is delivered: it enters LISTENING and a welcome wait starts (R156). A confirmed level without a value
counts as high. -/
def State.enterListening (s : State) : State :=
  { s with join.station := .listening, join.welcomeWait := some 0,
           join.quietLow := decide (s.barrier.confirmed = some .low) }

/-- Founding: the station enters MEMBER with tag 0 and drives WLS low at once (R70, R161). -/
def State.found (s : State) : State :=
  let t : State :=
    { s with
      join := { s.join with station := .member, welcomeWait := none, admission := none }
      barrier := { s.barrier with phase := some .filling, driverLow := true, redrive := false, timer := 0, timerRunning := true,
                                  fillTag := some 0, forced := false, releaseTime := 0, openDamage := false } }
  t.raise .joined

/-! ## The soft reset (R176) -/

/-- The Join Controller after a soft reset: CONFIGURED from the four states of the wall, and the station state as it was from the
other three (R153, R166). -/
def Join.softReset (j : Join) : Join :=
  { Join.reset with
    station := match j.station with
      | .joining | .listening | .member | .observer => .configured
      | .starting => .starting
      | .unconfigured => .unconfigured
      | .configured => .configured }

/-- The Barrier Unit after a soft reset; the filter goes on following the line (R32, R73). -/
def Barrier.softReset (b : Barrier) : Barrier := { Barrier.reset with confirmed := b.confirmed }

/-- The Link Unit after a soft reset (R29, R30). -/
def Link.softReset (hasRecord : Bool) : Link := { Link.reset with view := if hasRecord then .waiting else .off }

/-- The Frame Store after a soft reset, its running passes cancelled: banks, selectors, current look and scan are kept (R151). -/
def FrameStore.softReset (f : FrameStore) (record : Option Record) (free : Nat) : FrameStore :=
  let g := match record with
    | some r => (f.cancelPass r .base free).cancelPass r .overlay free
    | none => f
  { g with baseState := .steady, overlayState := .steady, request := none, markDue := false, stage := none }

/-- The soft reset, block by block. The record, the digest and the event mask are kept; the transaction in which the RESET was
taken goes on (R176). -/
def State.softReset (s : State) : State :=
  let t := s.abandonCommit
  { t with
    join := t.join.softReset
    link := Link.softReset t.record.isSome
    rx := Receiver.reset
    roster := []
    intake := { t.intake with queue := [], committing := false }
    barrier := t.barrier.softReset
    pub := t.pub.emptied
    frame := t.frame.softReset t.record t.freeIndex
    port := { t.port with events := 0, counters := Counters.zero }
    freeIndex := t.freeIndex + 1 }

/-! ## The hard reset (R150) -/

/-- The Frame Store while a hard reset is held: as R150 gives it, but for the banks, which the start-up clear pass has still to
write. -/
def FrameStore.hardReset (f : FrameStore) : FrameStore :=
  { FrameStore.reset with baseA := f.baseA, baseB := f.baseB, overlayA := f.overlayA, overlayB := f.overlayB }

/-- The hard reset is held: every block in its hard-reset state, and the port takes no transaction (00_scope.md 4.6). The pins,
the banks and the model's own fields stay. Of a commit or a preparation pass that the hard reset stops, no pixel is written in the
banks, until the start-up clear pass writes them all (notes/assumptions/30.md). -/
def State.hardReset (s : State) : State :=
  { State.reset with
    resetHeld := true
    frame := s.frame.hardReset
    port := { Port.reset with psel := s.port.psel, phase := .waitHigh }
    freeIndex := s.freeIndex
    pending := s.pending }

end Sys2Proof.Machine
end

