-- ==== Sys2Proof/Machine/Publishing.lean ====
section
/-! DEFINITION. The Publisher: taking a request, removal from the queue, the outcomes of a transmission, and the transmitter arbiter
(07). -/

namespace Sys2Proof.Machine

/-! ## Taking a request (R117) -/

/-- The results of a command, with their codes (R169). -/
inductive Result where
  | ok
  | full
  | illegal
  | state
  | unknown
  deriving DecidableEq, Repr

/-- The result byte (R169). -/
def Result.byte : Result → Byte
  | .ok => 0
  | .full => 1
  | .illegal => 2
  | .state => 3
  | .unknown => 4

/-- The request that a body becomes when its payload's run begins at place `start` (R116). -/
def RequestBody.at (start : Nat) : RequestBody → RequestBody
  | .stripe l f q _ => .stripe l f q start
  | .palette first count _ => .palette first count start
  | b => b

/-- Append a request, with its payload written into the staging store just after the newest payload (R116, R117). -/
def Publisher.append (p : Publisher) (body : RequestBody) (payload : List RawPixel) : Publisher :=
  { p with
    queue := p.queue ++ [{ body := body.at p.stagingNext, attempts := 0 }]
    staging := Memory.writeAll (.idx8 0) p.staging ((runPlaces p.stagingNext payload.length).zip payload)
    stagingNext := (p.stagingNext + payload.length) % Config.stagingPlaces }

/-- The Publisher's answer to a request found valid (R117). -/
def State.takeRequest (s : State) (body : RequestBody) (payload : List RawPixel) : State × Result :=
  if s.pub.queue.length < Config.queueCapacity ∧ body.places ≤ s.pub.stagingFree then
    ({ s with pub := s.pub.append body payload }, .ok)
  else ({ s with pub.spaceWanted := true }, .full)

/-! ## Removal (R118) -/

/-- A removal from the queue: the first after a FULL answer raises SPACE and clears the mark (R118). -/
def State.spaceFreed (s : State) : State :=
  if s.pub.spaceWanted then { s with pub.spaceWanted := false }.raise .space else s

/-- Remove the head of the queue; its places are free with it (R116, R118). -/
def State.removeHead (s : State) : State :=
  match s.pub.queue with
  | [] => s
  | _ :: rest => { s with pub.queue := rest }.spaceFreed

/-- The place after a request's payload, where the next run begins when it is the newest payload; `next` for a request without
one (R116). -/
def RequestBody.runEnd (next : Nat) : RequestBody → Nat
  | .stripe _ _ rect start => (start + rect.width * rect.height) % Config.stagingPlaces
  | .palette _ count start => (start + count) % Config.stagingPlaces
  | .fill .. | .look _ | .endFrame | .withdraw => next

/-- The place where the next run begins when only the head of the queue is left (R116). -/
def Publisher.nextAfterHead (p : Publisher) : Nat :=
  match p.queue with
  | q :: _ => q.body.runEnd p.stagingNext
  | [] => p.stagingNext

/-- Remove every request that is not in transmission and set the flush mark of the one that is (R129). -/
def State.flushQueue (s : State) : State :=
  if s.pub.sendingRequest then
    let t : State :=
      { s with pub.queue := s.pub.queue.take 1,
               pub.stagingNext := s.pub.nextAfterHead,
               pub.transmission := s.pub.transmission.map fun x => { x with flush := true } }
    if 1 < s.pub.queue.length then t.spaceFreed else t
  else
    match s.pub.queue with
    | [] => s
    | _ :: _ => { s with pub.queue := [] }.spaceFreed

/-! ## The outcomes of a transmission (R121–R131) -/

/-- What the Link Unit reports of a transmission, but for CUT, after which no request is left to act on (R27, R132). -/
inductive Report where
  | lost
  | bitError
  | delivered
  | refused
  deriving DecidableEq, Repr

/-- An END outcome makes the engine HELD (R125). -/
def State.holdIf (s : State) (isEnd : Bool) : State := if isEnd then { s with pub.held := true } else s

/-- One more attempt of the head, without a drop (R123). -/
def State.attempt (s : State) : State :=
  match s.pub.queue with
  | q :: rest => { s with pub.queue := { q with attempts := q.attempts + 1 } :: rest }
  | [] => s

/-- The head kept with attempts used 0 (R124). -/
def State.resend (s : State) : State :=
  match s.pub.queue with
  | q :: rest => { s with pub.queue := { q with attempts := 0 } :: rest }
  | [] => s

/-- An attempt that failed, refused or in a bit error, with no edge seen: the request contends again or is dropped (R123, R127). -/
def State.failedAttempt (s : State) (q : Request) : State :=
  if q.attempts + 1 < Config.maxAttempts then s.attempt
  else ((s.removeHead.count .dropped).raise .drop).holdIf (decide (q.body = .endFrame))

/-- The outcome of the queue head's transmission `t` (R122–R129). A WITHDRAW is never overtaken (R128). -/
def State.requestReport (s : State) (t : Transmission) (q : Request) (r : Report) : State :=
  let isEnd := decide (q.body = .endFrame)
  let overtaken := t.edgeSeen && decide (q.body ≠ .withdraw)
  match r with
  | .lost => if t.flush then s.removeHead else s
  | .delivered | .refused | .bitError =>
    if overtaken then
      if t.flush || isEnd then s.removeHead else s.resend
    else match r with
      | .delivered => (s.removeHead.count .sent).holdIf isEnd
      | .refused =>
        if t.flush then (s.removeHead.count .refusedTx).holdIf isEnd else (s.count .refusedTx).failedAttempt q
      | .bitError | .lost => if t.flush then s.removeHead.holdIf isEnd else s.failedAttempt q

/-- A JOIN that was refused or ended in a bit error has used one unit of the budget (R155, R163). -/
def State.joinFailed (s : State) : State :=
  let t : State := { s with join.budget := s.join.budget - 1 }
  if t.join.budget = 0 then t.enterObserver .refused else t

/-- The outcome of a JOIN transmission (R131, R155). -/
def State.joinReport (s : State) : Report → State
  | .lost => s
  | .delivered => ({ s with join.budget := s.join.budget - 1, join.joinPending := false }.count .sent).enterListening
  | .refused => (s.count .refusedTx).joinFailed
  | .bitError => s.joinFailed

/-- The outcome of a WELCOME transmission; WELCOME pending is cleared by loopback (R130). -/
def State.welcomeReport (s : State) : Report → State
  | .delivered => s.count .sent
  | .refused => s.count .refusedTx
  | .lost | .bitError => s

/-- Act on the outcome report of the transmission, and empty the transmission record (R121). -/
def State.report (s : State) (r : Report) : State :=
  match s.pub.transmission with
  | none => s
  | some t =>
    let u : State := { s with pub.transmission := none }
    match t.source with
    | .join => u.joinReport r
    | .welcome => u.welcomeReport r
    | .request =>
      match u.pub.queue with
      | q :: _ => u.requestReport t q r
      | [] => u

/-! ## The transmitter arbiter (R120, R121, R23) -/

/-- A transmission that begins now, its marks clear (R121). -/
def newTransmission (source : TxSource) (bytes : List Byte) (tag : Option Tag) : Transmission :=
  { source := source, bytes := bytes, tag := tag, edgeSeen := false, flush := false }

/-- The candidate the arbiter would hand over: JOIN, then WELCOME, then the queue head of a CONTENDING engine (R120), with the
tag current now (R121). -/
def State.candidate (s : State) : Option Transmission :=
  match s.record with
  | none => none
  | some r =>
    if s.join.station = .joining then
      match s.join.joinPending, s.digest with
      | true, some d => some (newTransmission .join (joinBytes r.station d) none)
      | _, _ => none
    else if s.join.station = .member then
      match s.barrier.fillTag with
      | none => none
      | some tag =>
        if s.pub.welcomePending then some (newTransmission .welcome (welcomeBytes r.station tag) (some tag))
        else if s.engine = .contending then
          match s.pub.queue with
          | q :: _ =>
            some (newTransmission .request (withCheck (q.body.bytes r.station tag (s.pub.payloadOf q.body)))
              (if q.body.kind.tagged then some tag else none))
          | [] => none
        else none
    else none

/-- The arbiter's choice at a moment when a transmission can begin: the bus view IDLE, or OPENING, with the transmitter free. The
START begins or is joined at once (R23, R120, R121). -/
def State.arbitrate (s : State) : State :=
  if (s.link.view = .idle ∨ s.link.view = .opening) ∧ s.pub.transmission = none then
    match s.candidate with
    | some t => { s with pub.transmission := some t, link.view := .opening, link.drive := .start }
    | none => s
  else s

end Sys2Proof.Machine
end

