-- ==== Sys2Proof/Machine/Sync.lean ====
section
/-! DEFINITION. A completion taken back (02, R28); the Barrier Unit: release, re-hold, forced release, the frame timer, and what every
command settles; and the swap edge with each block's response to it (04 and the swap-edge sections of 05–09). -/

namespace Sys2Proof.Machine

/-! ## A completion taken back (R28) -/

/-- The event flags that follow what a completion did: all but SHOWN and DAMAGE, which report a flip that the panel has shown. -/
def Undo.flags : BitVec 11 := 0x7FC

/-- The blocks that a completion changed put back. The confirmed level is the line's, and the cadence record changes only at swap edges
and resets (R67). -/
def State.putBackBlocks (s : State) (b : BlocksBefore) : State :=
  { s with
    join := b.join
    barrier := { b.barrier with confirmed := s.barrier.confirmed, cadence := s.barrier.cadence }
    pub := match b.lost with
      | some q => { s.pub with queue := q.queue, stagingNext := q.stagingNext, held := q.held, welcomePending := q.welcomePending,
                               spaceWanted := q.spaceWanted }
      | none => s.pub
    frame := match b.request with
      | .same => s.frame
      | .withdrawn => s.frame.withdrawRequest
      | .made q => s.frame.stand { q with heldCommit := q.heldCommit && s.intake.committing } }

/-- The station as it would be without the completion that an undo record is of: its counts, its event flags and its blocks taken back
(R28; notes/assumptions/31.md). -/
def State.putBack (s : State) (u : Undo) : State :=
  let t : State :=
    { s with
      rx.undo := none
      port.events := (s.port.events &&& ~~~(u.raised &&& Undo.flags)) ||| (u.owed &&& Undo.flags)
      port.counters.forced := s.port.counters.forced - u.forced
      port.counters.stalls := s.port.counters.stalls - u.stalls
      port.counters.checkFails := s.port.counters.checkFails - u.checkFails
      port.counters.stale := s.port.counters.stale - u.stale }
  match u.blocks with
  | some b => t.putBackBlocks b
  | none => t

/-- The flip request of `p`, the station without the completion, beside `t`, the station with it. -/
def FrameStore.requestBeside (p t : FrameStore) : RequestBefore :=
  match p.request, t.request with
  | none, some _ => .withdrawn
  | some q, none => .made { q with damage := q.damage || p.markDue }
  | none, none | some _, some _ => .same

/-- The blocks of `p`, the station without the completion, beside `t`, the station with it. -/
def State.blocksBeside (p t : State) (lost : Bool) : BlocksBefore :=
  { join := p.join
    barrier := p.barrier
    lost := if lost then
        some { queue := p.pub.queue, stagingNext := p.pub.stagingNext, held := p.pub.held, welcomePending := p.pub.welcomePending,
               spaceWanted := p.pub.spaceWanted }
      else none
    request := p.frame.requestBeside t.frame }

/-- What a truncation takes back of the station `t` to leave the station `p`, but for the blocks. -/
def State.undoBeside (p t : State) : Undo :=
  { raised := t.port.events &&& ~~~p.port.events
    owed := p.port.events &&& ~~~t.port.events
    forced := t.port.counters.forced - p.port.counters.forced
    stalls := t.port.counters.stalls - p.port.counters.stalls
    checkFails := t.port.counters.checkFails - p.port.counters.checkFails
    stale := t.port.counters.stale - p.port.counters.stale
    blocks := none }

/-- An event between a completion that changed a block and its slot: the station acts on it, `f`, and so does the one that a truncation
would put back, `g`, so that a truncation leaves the station as the events alone would have left it (R28; notes/assumptions/31.md).
At every other time it is `f`. -/
def State.beside (f g : State → State) (s : State) : State :=
  match s.rx.undo.bind fun u => u.blocks.map fun b => (u, b) with
  | none => f s
  | some (u, b) =>
    let t := f s
    let p := g (s.putBack u)
    { t with rx.undo := some { p.undoBeside t with blocks := some (p.blocksBeside t b.lost.isSome) } }

/-! ## Release and re-hold (R58–R61) -/

/-- Readiness has become true in FILLING: WLS is released (R58). -/
def State.releaseReady (s : State) : State :=
  { s with barrier := { s.barrier.release with phase := some .ready, releaseTime := s.barrier.timer } }

/-- The timer has reached H in FILLING: the forced release (R59). -/
def State.releaseForced (s : State) : State :=
  let t : State :=
    { s with barrier := { s.barrier.release with phase := some .ready, forced := true, releaseTime := s.barrier.timer } }
  (t.count .forced).raise .overdue

/-- Readiness has been lost in READY below H: the re-hold drives WLS low at once (R60). -/
def State.rehold (s : State) : State := { s with barrier.phase := some .filling, barrier.driverLow := true }

/-- Readiness has been lost at or past H: the forced flag is set (R61). -/
def State.setForced (s : State) : State := ({ s with barrier.forced := true }.count .forced).raise .overdue

/-- The Barrier Unit acts on the readiness that holds now (R57): release in FILLING, re-hold or forced flag in READY and
STALLED. -/
def State.react (s : State) : State :=
  if s.join.station ≠ .member then s else
  match s.barrier.phase with
  | none => s
  | some .filling => if s.ready then s.releaseReady else s
  | some .ready =>
    if s.ready || s.barrier.forced then s
    else if s.barrier.timer < s.holdLimit then s.rehold else s.setForced
  | some .stalled => if s.ready || s.barrier.forced || decide (s.barrier.timer < s.holdLimit) then s else s.setForced

/-- What every change of the levels leads to at once: the flip when it is due (R139), the beginning of a commit (R103), the
barrier's response to readiness (R57), and the arbiter's choice (R120), in that order. -/
def State.settleBlocks (s : State) : State := s.tryFlip.beginCommit.react.arbitrate

/-- What every change of the levels leads to at once, in the station and in the one that a truncation would put back. -/
def State.settle (s : State) : State := s.beside State.settleBlocks State.settleBlocks

/-! ## The frame timer (R54, R57, R59, R63) -/

/-- The timer reaches P: readiness condition 1 becomes true (R57). -/
def State.reachPeriod (s : State) : State :=
  if s.barrier.timerRunning ∧ s.barrier.timer < s.period then { s with barrier.timer := s.period }.react else s

/-- The timer reaches H, having passed P: a station still FILLING is released by force (R59). -/
def State.reachHold (s : State) : State :=
  let t := s.reachPeriod
  if t.barrier.timerRunning ∧ t.barrier.timer < t.holdLimit then
    let u : State := { t with barrier.timer := t.holdLimit }
    if u.join.station = .member ∧ u.barrier.phase = some .filling then u.releaseForced else u
  else t

/-- Readiness released WLS in the last unit before H, and no unit has passed since: a timer that reaches H now meets this release at
the same moment, with readiness taken first (R59; notes/assumptions/33.md). -/
def State.releasedAtHold (s : State) : Bool :=
  s.barrier.timerRunning && decide (s.barrier.phase = some .ready) && !s.barrier.forced &&
    decide (s.barrier.releaseTime = s.barrier.timer) && decide (s.barrier.timer + 1 = s.holdLimit)

/-- The event that the timer reaches H. A release that it meets at the same moment stays ordinary, and its release time is H (R59). -/
def State.holdReached (s : State) : State :=
  if s.releasedAtHold then { s.reachHold with barrier.releaseTime := s.holdLimit } else s.reachHold

/-- The timer reaches H + P, having passed P and H: a station still READY is STALLED (R63). -/
def State.reachStall (s : State) : State :=
  let t := s.reachHold
  if t.barrier.timerRunning ∧ t.barrier.timer < t.stallLimit then
    let u : State := { t with barrier.timer := t.stallLimit }
    if u.join.station = .member ∧ u.barrier.phase = some .ready then
      ({ u with barrier.phase := some .stalled }.count .stalls).raise .stall
    else u
  else t

/-! ## The swap edge (R66, R68, R69) -/

/-- A fill tag advanced by one modulo 16; UNKNOWN stays UNKNOWN (R66, R68). -/
def nextTag (t : Option Tag) : Option Tag := t.map fun x => x + 1

/-- The parts of a pending outcome that an edge turns into damage (R95). -/
def ContentPart.lostAtEdge : ContentPart → Bool
  | .nothing | .look .. => false
  | .reserved _ | .noRoom => true

/-- The pending outcome's content is lost at an edge (R95). -/
def Receiver.losesAtEdge (r : Receiver) : Bool :=
  match r.outcome with
  | some o => o.content.lostAtEdge
  | none => false

/-- A pending outcome settled at an edge: the content is lost but for a LOOK, and the roster update but for the heard flag (R77,
R95). A WITHDRAW, a stale burst, a JOIN and a WELCOME are not affected. -/
def PendingOutcome.atEdge (o : PendingOutcome) : PendingOutcome :=
  { o with content := if o.content.lostAtEdge then .nothing else o.content
           roster := match o.roster with
             | .update => .heardOnly
             | .heardOnly => .heardOnly
             | .withdraw => .withdraw }

/-- The Receiver at an edge: the pending outcome settled and the missed list closed (R95, R102). -/
def Receiver.edge (r : Receiver) : Receiver :=
  { r with outcome := r.outcome.map PendingOutcome.atEdge, missed := [], overflow := false }

/-- The intake queue after the edge cleanup: the entry being committed, and entries of the frame that opens (R109). -/
def Intake.kept (i : Intake) (opening : Option Tag) : List IntakeEntry :=
  match i.queue, i.committing with
  | e :: rest, true => e :: rest.filter fun x => decide (some x.tag = opening)
  | q, _ => q.filter fun x => decide (some x.tag = opening)

/-- The frame that closes at an edge is damaged: by the open-frame mark, the missed list, the pending outcome or the edge cleanup
(R67, R95, R102, R109). -/
def State.damagedAtEdge (s : State) : Bool :=
  s.barrier.openDamage || !s.rx.missed.isEmpty || s.rx.overflow || s.rx.losesAtEdge ||
    decide ((s.intake.kept (nextTag s.barrier.fillTag)).length < s.intake.queue.length)

/-- The Publisher at an edge: the edge-seen mark, the head's attempts, and the end of HELD (R123, R124, R125). -/
def Publisher.edge (p : Publisher) : Publisher :=
  { p with
    transmission := p.transmission.map fun t => { t with edgeSeen := true }
    queue := match p.queue with
      | q :: rest => { q with attempts := 0 } :: rest
      | [] => []
    held := false }

/-- The cadence record of the frame that closes: the timer and the release time of a MEMBER, no release and no forced flag for an
OBSERVER, and neither time for a station that enters MEMBER at the edge (R66–R69). -/
def State.cadenceAtEdge (s : State) : Cadence :=
  let member := decide (s.join.station = .member)
  { interval := if s.join.station = .listening then 0 else s.barrier.timer
    ownRelease := if member then s.barrier.releaseTime else 0
    forced := member && s.barrier.forced
    damaged := s.damagedAtEdge
    skipped := s.frame.request.isSome }

/-- The Barrier Unit at an edge (R66, R68, R69): an OBSERVER takes it without a phase, every other station is a MEMBER after it,
in FILLING with WLS released for one re-drive delay. -/
def State.barrierAtEdge (s : State) : Barrier :=
  let observer := decide (s.join.station = .observer)
  { s.barrier.release with
    phase := if observer then none else some .filling
    redrive := !observer
    timer := 0
    timerRunning := true
    fillTag := nextTag s.barrier.fillTag
    forced := false
    releaseTime := 0
    openDamage := false
    cadence := s.cadenceAtEdge }

/-- The Join Controller at an edge: the edge count, and the admission of a LISTENING station (R158, R159). -/
def Join.edge (j : Join) : Join :=
  if j.station = .listening then
    { j with station := .member, edgeCount := j.edgeCount + 1, admission := none, welcomeWait := none }
  else { j with edgeCount := j.edgeCount + 1 }

/-- What every block does at a swap edge, but for the marks of damage at the Frame Store (R66, R68, R69). -/
def State.edgeMoves (s : State) : State :=
  let opening := nextTag s.barrier.fillTag
  let admitted := decide (s.join.station = .listening)
  let t : State :=
    { s with
      join := s.join.edge
      barrier := s.barrierAtEdge
      rx := s.rx.edge
      intake := { s.intake with queue := s.intake.kept opening }
      frame := s.frame.edge s.barrier.fillTag s.intake.committing
      pub := s.pub.edge }
  (((t.withRoster (ageRoster s.roster)).count .swaps).countIf s.damagedAtEdge .damaged).raiseIf admitted .joined

/-- The scan shows the last row of its pass (R146). -/
def State.atLastRow (s : State) : Bool :=
  match s.record, s.frame.scan with
  | some r, some sc => decide (r.rows ≤ sc.row + 1)
  | _, _ => false

/-- A swap edge. The marks of damage for the closing frame come last. In the last row of a pass, where the edge and the pass end come
together, the mark is left to the pass end, or to the step that makes the flip before it (R141; notes/assumptions/13.md). -/
def State.swapEdge (s : State) : State :=
  if s.damagedAtEdge then
    if s.atLastRow then { s.edgeMoves with frame.markDue := true } else s.edgeMoves.markDamage
  else s.edgeMoves

/-- The electrical fault: a rise while the own driver is low and the fault watch is clear (R65). -/
def State.electricalFault (s : State) : State :=
  if s.barrier.faultWatch then s else ({ s with barrier.faultWatch := true }.count .stalls).raise .stall

/-- A confirmed rise at the Barrier Unit, by the station state and phase at its arrival (R64). -/
def State.riseBlocks (s : State) : State :=
  match s.join.station with
  | .member =>
    match s.barrier.phase with
    | some .ready | some .stalled => s.swapEdge
    | some .filling => if s.barrier.driverLow then s.electricalFault else s
    | none => s
  | .observer => s.swapEdge
  | .listening =>
    match s.join.admission with
    | some _ => s.swapEdge
    | none => { s with join.edgeCount := s.join.edgeCount + 1 }
  | .starting | .unconfigured | .configured | .joining => s

/-- A confirmed rise at the station that a truncation would put back. A MEMBER that the completion has made an OBSERVER takes it as an
edge in every phase: its own release of WLS has let the line rise, and every other station takes the edge (notes/assumptions/31.md). -/
def State.riseBeside (now : StationState) (p : State) : State :=
  if now = .observer ∧ p.join.station = .member then p.swapEdge else p.riseBlocks

/-- A confirmed rise at the station, and at the one that a truncation would put back (R28, R64). -/
def State.takeRise (s : State) : State := s.beside State.riseBlocks (State.riseBeside s.join.station)

/-! ## The welcome wait (R160) -/

/-- The welcome-wait timer has reached 2 × P (R160). -/
def State.welcomeExpired (s : State) : State :=
  if s.join.quietLow then
    if 0 < s.join.budget then
      { s with join.station := .joining, join.joinPending := true, join.quietLow := false, join.welcomeWait := none }
    else { s with join.admission := some .withoutTag, join.welcomeWait := none }
  else s.found

/-- The expiry of the welcome wait, in a station whose welcome-wait timer runs (R156, R160). -/
def State.expireBlocks (s : State) : State :=
  if s.join.station = .listening ∧ s.join.welcomeWait.isSome then s.welcomeExpired.settleBlocks else s

/-- The expiry of the welcome wait, in the station and in the one that a truncation would put back. -/
def State.expireWelcome (s : State) : State := s.beside State.expireBlocks State.expireBlocks

/-! ## Time while no command waits (notes/assumptions/2.md) -/

/-- 100 µs pass on the frame timer, with what happens at P, H and H + P (R54, R57, R59, R63). -/
def State.tickFrame (s : State) : State :=
  if s.barrier.timerRunning ∧ s.barrier.timer < Config.timerLimit then
    let n := s.barrier.timer + 1
    if n = s.period then s.reachPeriod
    else if n = s.holdLimit then s.reachHold
    else if n = s.stallLimit then s.reachStall
    else { s with barrier.timer := n }
  else s

/-- 100 µs pass on the welcome-wait timer, with its expiry at 2 × P (R156, R160). -/
def State.tickWelcome (s : State) : State :=
  match s.join.welcomeWait with
  | some n => if n + 1 < 2 * s.period then { s with join.welcomeWait := some (n + 1) } else s.expireBlocks
  | none => s

/-- 100 µs pass, in the station and in the one that a truncation would put back. -/
def State.tick (s : State) : State := s.beside (fun x => x.tickFrame.tickWelcome) fun x => x.tickFrame.tickWelcome

end Sys2Proof.Machine
end

