-- ==== Sys2Proof/Machine/Reception.lean ====
section
/-! DEFINITION. The Receiver: taking bits and bytes, the classification at completion, and the pending outcome carried out at the
slot result (03, 06, 09). -/

namespace Sys2Proof.Machine

/-! ## Bits and bytes (R21, R36) -/

/-- The Receiver at a confirmed START: the buffer is emptied and the running check value is FFFFh (R36). The missed list and the
overflow flag are kept. -/
def Receiver.startBurst (r : Receiver) : Receiver :=
  { Receiver.reset with missed := r.missed, overflow := r.overflow }

/-- One byte handed over by the Link Unit (R36): a body byte is folded into the running check value and stored as far as the
buffer reaches, and the length is fixed as soon as its fields have arrived; a byte after the body is a check byte. -/
def Receiver.takeByte (r : Receiver) (b : Byte) : Receiver :=
  let inBody := match r.bodyLength with
    | some n => decide (r.received < 2 + n)
    | none => true
  if inBody then
    let body := if r.received < Config.bufferBody then r.body ++ [b] else r.body
    { r with
      body := body
      running := crcByte r.running b
      received := r.received + 1
      bodyLength := match r.bodyLength with
        | some n => some n
        | none => fixedLength body }
  else { r with check := r.check ++ [b], received := r.received + 1 }

/-- One bit taken in, most significant bit of its byte first; at the eighth the byte is handed over (R21). -/
def Receiver.takeBit (r : Receiver) (bit : Bool) : Receiver :=
  let byte : Byte := (r.shift <<< 1) ||| (BitVec.ofBool bit).setWidth 8
  if r.bitCount < 7 then { r with shift := byte, bitCount := r.bitCount + 1 }
  else { r with shift := 0, bitCount := 0 }.takeByte byte

/-- The number of the next bit of the burst, counted from 0. -/
def Receiver.bitIndex (r : Receiver) : Nat := 8 * r.received + r.bitCount

/-- The next bit is the last bit of the second check byte (R22). -/
def Receiver.atLastBit (r : Receiver) : Bool :=
  match r.bodyLength with
  | some n => decide (r.bitIndex = 8 * (n + 4) - 1)
  | none => false

/-- The next bit is one of byte 0, the arbitration field (R24). -/
def Receiver.inByte0 (r : Receiver) : Bool := decide (r.received = 0)

/-- The check passes: the running value equals the two check bytes (R37). -/
def Receiver.checkPasses (r : Receiver) : Bool := decide (r.check = bytes16 r.running)

/-! ## Classification (R48–R51, R93, R94) -/

/-- A tag plus the edges counted during a burst, modulo 16 (R48, R158). -/
def tagAfterEdges (tag : Tag) (edges : Nat) : Tag := tag + BitVec.ofNat 4 edges

/-- Adoption: a station with an UNKNOWN tag that was MEMBER or OBSERVER when the completion came, `before`, takes the burst's tag plus
the edges taken during the burst (R48). A JOINING or LISTENING station that the same completion made an OBSERVER adopts nothing from
it, so the burst is stale to it (R111; notes/assumptions/32.md). -/
def State.adopt (s : State) (before : StationState) (tag : Tag) : State :=
  if s.barrier.fillTag = none ∧ (before = .member ∨ before = .observer) then
    { s with barrier.fillTag := some (tagAfterEdges tag s.join.edgeCount) }
  else s

/-- A LISTENING station whose mark is none or waiting without tag takes its tag from a WELCOME (R158). -/
def State.takeWelcome (s : State) (tag : Tag) : State :=
  if s.join.station = .listening ∧ s.join.admission ≠ some .withTag then
    { s with barrier.fillTag := some (tagAfterEdges tag s.join.edgeCount), join.welcomeWait := none,
             join.admission := some .withTag }
  else s

/-- The content is relevant to the station (R49): a PALETTE always, a STRIPE or FILL when its rectangle touches the viewport. -/
def Content.relevant (r : Record) : Content → Bool
  | .stripe _ _ q _ => r.touches q
  | .fill _ q _ _ => r.touches q
  | .palette .. => true

/-- The content part of the pending outcome of a current burst, from its relevance and the room in the intake queue (R97). -/
def State.contentPart (s : State) (r : Record) (tag : Tag) : BurstBody → ContentPart
  | .content c =>
    if c.relevant r then
      if s.intake.queue.length < Config.intakeCapacity then .reserved { tag := tag, content := c } else .noRoom
    else .nothing
  | .look l => .look tag l
  | .join _ | .welcome | .endFrame | .withdraw => .nothing

/-- Hold a pending outcome, and the decision to refuse (R93, R94). -/
def State.holdOutcome (s : State) (o : Option PendingOutcome) (refuse : Bool) : State :=
  { s with rx.outcome := o, link.refuse := refuse }

/-- A well-formed tagged burst, after a WELCOME has been offered to the Join Controller: adoption, currency, relevance (R51, steps
6 to 8). -/
def State.classifyTagged (s : State) (before : StationState) (r : Record) (id : Identity) (tag : Tag) (body : BurstBody) : State :=
  let t := s.adopt before tag
  if t.barrier.fillTag = some tag then
    let part := t.contentPart r tag body
    t.holdOutcome (some { identity := id, roster := .update, content := part, answersJoin := false })
      (decide (part = .noRoom) && t.join.station.refuses)
  else
    (t.count .stale).holdOutcome (some { identity := id, roster := .heardOnly, content := .nothing, answersJoin := false }) false

/-- A well-formed JOIN: a MEMBER compares the digest of another station's JOIN, and refuses one that differs (R157). -/
def State.classifyJoin (s : State) (own : Bool) (id : Identity) (digest : BitVec 16) : State :=
  let compares := decide (s.join.station = .member) && !own
  let equal := decide (s.digest = some digest)
  let t : State :=
    if compares && !equal then { s with join.mismatch := some id.sender }.raise .mismatch else s
  t.holdOutcome (some { identity := id, roster := .heardOnly, content := .nothing, answersJoin := compares && equal })
    (compares && !equal)

/-- A well-formed burst by its kind (R51, steps 4 to 9), at a station whose state was `before` when the completion came. -/
def State.classifyBody (s : State) (before : StationState) (r : Record) (own : Bool) (id : Identity) (tag : Tag) (body : BurstBody) :
    State :=
  match body with
  | .join digest => s.classifyJoin own id digest
  | .withdraw =>
    s.holdOutcome (some { identity := id, roster := .withdraw, content := .nothing, answersJoin := false }) false
  | .welcome => (s.takeWelcome tag).classifyTagged before r id tag body
  | .endFrame | .look _ | .content _ => s.classifyTagged before r id tag body

/-- The classification at completion (R51), of a burst that is the station's own or not (R22). -/
def State.classify (s : State) (r : Record) (own : Bool) : State :=
  if s.rx.checkPasses then
    let b0 := byteAt s.rx.body 0
    let id : Identity := { sender := senderIn b0, kind := kindIn b0, check := s.rx.running }
    let t := if id.sender = r.station ∧ own = false then s.findDuplicate else s
    match formOf r.canvasWidth r.canvasHeight s.rx.body with
    | none => t.holdOutcome none t.join.station.refuses
    | some body => t.classifyBody s.join.station r own id (tagIn (byteAt s.rx.body 1)) body
  else (s.count .checkFails).holdOutcome none s.join.station.refuses

/-- Completion: the next bit period is the refusal slot, and the burst is classified (R22, R51). The burst is the station's own
when its transmitter is still driving it. What the classification did at once is kept for a truncation: the counts and event flags, and
the blocks when it changed the Join Controller or the Barrier Unit (R28). -/
def State.complete (s : State) : State :=
  match s.record with
  | some r =>
    let t := { s with link.atSlot := true }.classify r s.pub.transmission.isSome
    { t with rx.undo := some { s.undoBeside t with
        blocks := if t.join = s.join ∧ t.barrier = s.barrier then none
          else some (s.blocksBeside t (decide (t.join.station ≠ s.join.station))) } }
  | none => s

/-- A burst that completed and has no slot has no effect: what its completion did at once is taken back (R28;
notes/assumptions/31.md). -/
def State.undoCompletion (s : State) : State :=
  match s.rx.undo with
  | some u => s.putBack u
  | none => s

/-! ## The slot result (R94, R98–R101, R110, R130) -/

/-- A missed-list addition (R100). -/
def Receiver.addMissed (r : Receiver) (id : Identity) : Receiver :=
  if id ∈ r.missed then r
  else if r.missed.length < Config.missedCapacity then { r with missed := r.missed ++ [id] }
  else { r with overflow := true }

/-- The reserved place becomes an intake entry, and the burst's identity leaves the missed list (R98, R101). -/
def State.accept (s : State) (id : Identity) (e : IntakeEntry) : State :=
  { s with intake.queue := s.intake.queue ++ [e], rx.missed := s.rx.missed.filter fun x => decide (x ≠ id) }

/-- A current, relevant burst without a place: a missed-list addition, or an observer drop (R99). -/
def State.miss (s : State) (id : Identity) : State :=
  if s.join.station = .observer then { s with barrier.openDamage := true }
  else { s with rx := s.rx.addMissed id }

/-- The content part of the pending outcome carried out (R94). -/
def State.carryContent (s : State) (id : Identity) : ContentPart → State
  | .nothing => s
  | .reserved e => s.accept id e
  | .noRoom => s.miss id
  | .look tag l => { s with frame.stage := some (tag, l) }

/-- The roster part of the pending outcome carried out, with the sender's heard flag (R76, R78, R94). -/
def State.carryRoster (s : State) (id : Identity) : RosterPart → State
  | .heardOnly => { s with roster := markHeard s.roster id.sender }
  | .update =>
    let t := s.withRoster (rosterOnBurst s.roster id.sender id.kind)
    { t with roster := markHeard t.roster id.sender }
  | .withdraw => s.withRoster (rosterOnWithdraw s.roster id.sender)

/-- WELCOME pending at a slot result: a well-formed WELCOME clears it; a delivered JOIN with an equal digest sets it at a MEMBER
with a known tag (R130, R157). -/
def State.carryWelcome (s : State) (o : PendingOutcome) (delivered : Bool) : State :=
  if o.identity.kind = .welcome then { s with pub.welcomePending := false }
  else if o.answersJoin && delivered && decide (s.join.station = .member) && s.barrier.fillTag.isSome then
    { s with pub.welcomePending := true }
  else s

/-- The pending outcome carried out and cleared (R94). -/
def State.carryOut (s : State) (delivered : Bool) : State :=
  match s.rx.outcome with
  | none => s
  | some o =>
    (({ s with rx.outcome := none }.carryRoster o.identity o.roster).carryContent o.identity o.content).carryWelcome o delivered

end Sys2Proof.Machine
end

