-- ==== Sys2Proof/Machine/LinkUnit.lean ====
section
/-! DEFINITION. The Link Unit: bus views, START, bits, arbitration, read-back and the refusal slot (02). -/

namespace Sys2Proof.Machine

/-- The symbol of a bit (R18). -/
def driveOf (bit : Bool) : Drive := if bit then .one else .zero

/-- The bit that the station's transmitter sends in the bit period that runs; `none` when it does not transmit. -/
def State.sending (s : State) : Option Bool := s.pub.transmission.map fun t => sentBit t.bytes s.rx.bitIndex

/-- A burst is being taken in and its next bit is one before the slot. -/
def State.takingBits (s : State) : Bool := decide (s.link.view = .burst) && !s.link.atSlot

/-- The next bit period of the burst is the refusal slot. -/
def State.atRefusalSlot (s : State) : Bool := decide (s.link.view = .burst) && s.link.atSlot

/-- The beginning of the refusal slot: a station that decided to refuse, and is LISTENING or MEMBER, stretches it and counts
REFUSALS_SENT; the transmitter sends a ONE (R26). -/
def State.beginSlot (s : State) : State :=
  if s.link.refuse && s.join.station.refuses then
    { s with link.bitOpen := true, link.drive := .stretch }.count .refusalsSent
  else { s with link.bitOpen := true, link.drive := if s.pub.transmission.isSome then .one else .released }

/-- The beginning of a bit period before the slot: the transmitter drives its symbol (R18, R21). -/
def State.beginBit (s : State) : State :=
  { s with link.bitOpen := true,
           link.drive := match s.sending with
             | some b => driveOf b
             | none => .released }

/-- The bit period that a sample point belongs to has begun: it is opened when no command opened it (notes/assumptions/10.md). -/
def State.ensureBit (s : State) : State := if s.link.bitOpen then s else s.beginBit

/-- The refusal slot has begun when it is sampled. -/
def State.ensureSlot (s : State) : State := if s.link.bitOpen then s else s.beginSlot

/-- A bit sampled: it is taken into the receive buffer, and the last check bit completes the burst (R21, R22, R36). -/
def State.takeBit (s : State) (bit : Bool) : State :=
  let last := s.rx.atLastBit
  let t : State := { s with link.bitOpen := false, rx := s.rx.takeBit bit }
  if last then t.complete else t

/-- The station's transmitter stops driving the burst, with its report acted on (R24, R25). -/
def State.stopDriving (s : State) (r : Report) : State := { s.report r with link.drive := .released }

/-- The end of a refusal slot at the Link Unit: the bus view is WAITING (R19, R22). -/
def Link.afterSlot (l : Link) : Link :=
  { l with view := .waiting, idleCount := 0, bitOpen := false, atSlot := false, refuse := false, drive := .released }

/-- The slot sampled: the pending outcome is carried out, the transmitter's outcome is acted on, and the bus view becomes WAITING
(R22, R27, R94, R122). A burst with a slot is not truncated, so nothing of its completion is taken back any more (R28). -/
def State.sampleSlot (s : State) (delivered : Bool) : State :=
  let t := (s.carryOut delivered).report (if delivered then .delivered else .refused)
  { t with link := t.link.afterSlot, rx.undo := none }

/-- A burst that ends truncated: it is discarded without a judgement, what the completion of a burst without a slot had done at once is
taken back, and TRUNCATED is counted (R28; notes/assumptions/31.md). -/
def State.truncate (s : State) : State :=
  let t := { s with rx.outcome := none }.undoCompletion
  { t with link.bitOpen := false, link.atSlot := false, link.refuse := false, link.drive := .released }.count .truncated

end Sys2Proof.Machine
end

