-- ==== Sys2Proof/Machine/BusEvents.lean ====
section
/-! DEFINITION. The meanings of the events on WLD: idle, START, bits, arbitration, completion and the refusal slot (02, 03). -/

namespace Sys2Proof.Machine

/-- BUS_IDLE: from WAITING the bus view becomes IDLE; a burst before its slot ends truncated; and the arbiter makes its choice
(R19, R28, R120). While the station itself drives the burst, or a slot is running, the line cannot have been high for four bit
periods. -/
def execBusIdle (s : State) : Host.Outcome State Fault Refusal :=
  match s.link.view with
  | .waiting | .idle => .next { s with link.view := .idle, link.idleCount := 4 }.settle
  | .burst =>
    if s.pub.transmission = none ∧ (s.link.atSlot && s.link.bitOpen) = false then
      .next { s.truncate with link.view := .idle, link.idleCount := 4 }.settle
    else .next s
  | .off | .opening => .next s

/-- A falling edge on an idle WLD opens a START period, and the arbiter may join it (R20, R23). -/
def State.openStart (s : State) : State :=
  if s.link.view = .idle then { s with link.view := .opening, link.idleCount := 0 }.settle else s

/-- The sample point of a START period: low confirms the START and the Receiver begins a burst; high abandons it, and a station
that drove it has a bit error (R20, R36, R158). -/
def State.sampleStart (s : State) (l : Level) : State :=
  if s.link.view = .opening then
    match l with
    | .low =>
      { s with link := { s.link with view := .burst, bitOpen := false, atSlot := false, refuse := false },
               rx := s.rx.startBurst, join.edgeCount := 0 }
    | .high =>
      let t : State := { s with link.view := .waiting, link.idleCount := 0 }
      if t.pub.transmission.isSome then ((t.count .bitErrors).stopDriving .bitError).settle else t
  else s

/-- START_PERIOD: the falling edge, and the sample point when the command reaches it (R20). -/
def execStartPeriod (level : Option Level) (s : State) : Host.Outcome State Fault Refusal :=
  match level with
  | none => .next s.openStart
  | some l => .next (s.openStart.sampleStart l)

/-- LOST_ARBITRATION: a contender that sends a ONE in byte 0 reads a ZERO; it stops driving and takes the burst in as a receiver
(R24, R126). -/
def execLostArbitration (s : State) : Host.Outcome State Fault Refusal :=
  if s.takingBits ∧ s.rx.inByte0 = true ∧ s.sending = some true then
    .next ((s.ensureBit.stopDriving .lost).takeBit false).settle
  else .next s

/-- BIT_ERROR: a transmitting station reads a bit other than the one it sent, but for a lost arbitration; it counts BIT_ERRORS,
stops driving and goes on decoding (R24, R25). -/
def execBitError (s : State) : Host.Outcome State Fault Refusal :=
  match s.sending with
  | some b =>
    if s.takingBits ∧ ¬ (s.rx.inByte0 = true ∧ b = true) then
      .next (((s.ensureBit.count .bitErrors).stopDriving .bitError).takeBit (!b)).settle
    else .next s
  | none => .next s

/-- COMPLETION: the last check bit is sampled, read back good by a transmitter, and the burst is classified (R22, R51). -/
def execCompletion (level : Level) (s : State) : Host.Outcome State Fault Refusal :=
  if s.takingBits ∧ s.rx.atLastBit = true ∧ (s.sending = none ∨ s.sending = some level.bit) then
    .next (s.ensureBit.takeBit level.bit).settle
  else .next s

/-- SLOT_RESULT: the slot is sampled; high is delivered, low refused (R22, R27, R94). -/
def execSlotResult (level : Level) (s : State) : Host.Outcome State Fault Refusal :=
  if s.atRefusalSlot then .next (s.ensureSlot.sampleSlot level.bit).settle else .next s

/-- BIT_PERIOD_START: in a burst the next bit period begins, or the refusal slot; in WAITING the idle count restarts (R19, R21,
R26). A falling edge before the sample point of the period that runs begins no period. -/
def execBitPeriodStart (s : State) : Host.Outcome State Fault Refusal :=
  match s.link.view with
  | .waiting => .next { s with link.idleCount := 0 }
  | .burst => if s.link.atSlot then .next s.ensureSlot else .next s.ensureBit
  | .off | .idle | .opening => .next s

/-- BIT_SAMPLE_POINT: an ordinary bit is sampled, read back good by a transmitter, and taken in (R21, R25, R36). -/
def execBitSamplePoint (level : Level) (s : State) : Host.Outcome State Fault Refusal :=
  if s.takingBits ∧ s.rx.atLastBit = false ∧ (s.sending = none ∨ s.sending = some level.bit) then
    .next (s.ensureBit.takeBit level.bit)
  else .next s

end Sys2Proof.Machine
end

