-- ==== Sys2Proof/Machine/LocalPort.lean ====
section
/-! DEFINITION. The Local Port: how a command is received and taken, and the response records (10). -/

namespace Sys2Proof.Machine

/-! ## Taking a command (R170, R171, R172) -/

/-- A command byte and its parameter bytes clocked in, in one transaction. Bytes count only in the COMMAND phase, which a falling
edge of PSEL# has opened. With fewer bytes than the command has, it is not taken and the phase is PARAMETERS. Otherwise it is
taken at its last parameter byte: in a station state the command table lists, `act` gives the state after it, the result and
the response bytes; in any other the answer is STATE. Bytes after the last parameter byte are ignored. -/
def State.receive (s : State) (code : Byte) (params : List Byte) (need : List Byte → Nat) (listed : StationState → Bool)
    (act : List Byte → State → State × Result × List Byte) : State :=
  if s.port.phase ≠ .command then s
  else if params.length < need params then { s with port.phase := .parameters, port.command := code :: params }
  else
    let ps := params.take (need params)
    let t : State := { s with port.phase := .response, port.command := code :: ps }
    if listed s.join.station then
      let a := act ps t
      { a.1 with port.response := a.2.1.byte :: (if a.2.1 = .ok then a.2.2 else []) }
    else { t with port.response := [Result.state.byte] }

/-- Commands taken in all station states (R169). -/
def inAll : StationState → Bool := fun _ => true

/-- The station states of CONFIGURE (R169). -/
def inConfigure : StationState → Bool
  | .unconfigured | .configured => true
  | .starting | .joining | .listening | .member | .observer => false

/-- The station state of START (R169). -/
def inStart : StationState → Bool
  | .configured => true
  | .starting | .unconfigured | .joining | .listening | .member | .observer => false

/-- The station states of READ CONFIG (R169). -/
def inReadConfig : StationState → Bool
  | .configured | .joining | .listening | .member | .observer => true
  | .starting | .unconfigured => false

/-- The station states of the content commands (R169, R178). -/
def inContent : StationState → Bool
  | .joining | .listening | .member => true
  | .starting | .unconfigured | .configured | .observer => false

/-- The codes of the command table (R169). -/
def commandCodes : List Byte :=
  [0x01, 0x02, 0x03, 0x04, 0x05, 0x06, 0x10, 0x11, 0x12, 0x13, 0x20, 0x21, 0x22, 0x23, 0x24, 0x25, 0x26]

/-! ## The data output (R170) -/

/-- PDO when `shifted` bits have been clocked out in the phase that runs. It is at high impedance (`none`) while a hard reset is held
(00_scope.md 4.6) and while PSEL# is high (R170). While PSEL# is low it carries zero bits in the command and parameter phases, and in
RESPONSE the bits of the response buffer, most significant bit of each byte first, and zero bits after the last (R170). R170 drives
PDO while PSEL# is low and gives no values for WAIT HIGH, the phase after a reset that ended with PSEL# low: the zero bits there are
the MODEL's choice, and so are those of DESELECTED, which PSEL# low never meets (DESIGN CHOICE, notes/assumptions/7.md). No row of
the table clocks a bit, so `shifted` is the reader's. -/
def State.pdo (s : State) (shifted : Nat) : Option Bool :=
  if s.resetHeld then none
  else match s.port.psel, s.port.phase with
    | .high, _ => none
    | .low, .response => some (sentBit s.port.response shifted)
    | .low, .waitHigh | .low, .deselected | .low, .command | .low, .parameters => some false

/-! ## Response records (R91, R169, R177, R182) -/

/-- The station state code of the status record. -/
def StationState.code : StationState → Byte
  | .starting => 0
  | .unconfigured => 1
  | .configured => 2
  | .joining => 3
  | .listening => 4
  | .member => 5
  | .observer => 6

/-- The observer reason code. -/
def reasonCode : Option ObserverReason → Byte
  | none => 0
  | some .refused => 1
  | some .duplicate => 2

/-- The barrier phase code. -/
def phaseCode : Option Phase → Byte
  | none => 0
  | some .filling => 1
  | some .ready => 2
  | some .stalled => 3

/-- The fill tag, 255 for UNKNOWN. -/
def tagCode : Option Tag → Byte
  | none => 255
  | some t => t.setWidth 8

/-- The engine state code. -/
def Engine.code : Engine → Byte
  | .blocked => 0
  | .idle => 1
  | .contending => 2
  | .sending => 3
  | .held => 4

/-- The last-frame flags byte. -/
def Cadence.flags (c : Cadence) : Byte :=
  (0 : BitVec 5) ++ BitVec.ofBool c.skipped ++ BitVec.ofBool c.damaged ++ BitVec.ofBool c.forced

/-- The 16-byte status record (R169, R182). -/
def State.statusRecord (s : State) : List Byte :=
  [s.join.station.code, reasonCode s.join.reason, phaseCode s.barrier.phase, tagCode s.barrier.fillTag, s.engine.code,
   BitVec.ofNat 8 s.pub.queue.length] ++ natBytes16 s.pub.stagingFree ++
  [BitVec.ofNat 8 s.intake.queue.length, BitVec.ofNat 8 s.roster.length, BitVec.ofNat 8 s.rx.missed.length,
   s.barrier.cadence.flags] ++ natBytes16 s.barrier.cadence.interval ++ natBytes16 s.barrier.cadence.ownRelease

/-- The roster as READ ROSTER returns it: a count byte and three bytes for each entry (R91). -/
def State.rosterRecord (s : State) : List Byte := BitVec.ofNat 8 s.roster.length :: s.roster.flatMap RosterEntry.bytes

/-- The counters as READ COUNTERS returns them (R183). -/
def Counters.bytes (c : Counters) : List Byte := c.toList.flatMap bytes16

/-- The mismatch station, 255 when none is recorded (R177). -/
def mismatchCode : Option StationNumber → Byte
  | none => 255
  | some n => n.setWidth 8

/-- The 23 bytes of READ CONFIG: the record, the digest and the mismatch station (R177). -/
def State.configRecord (s : State) : List Byte :=
  (match s.record with
    | some r => r.bytes
    | none => []) ++
  (match s.digest with
    | some d => bytes16 d
    | none => []) ++ [mismatchCode s.join.mismatch]

/-! ## What the commands do at taking -/

/-- A content command that has passed its checks, handed to the Publisher (R117, R178). -/
def State.request (s : State) (body : RequestBody) (payload : List RawPixel) : State × Result × List Byte :=
  let a := s.takeRequest body payload
  (a.1.settle, a.2, [])

/-- The record of a station in which content commands are taken. -/
def State.fitsCanvas (s : State) (q : Rect) : Bool :=
  match s.record with
  | some r => q.fits r.canvasWidth r.canvasHeight
  | none => false

/-- The body of a PUT STRIPE whose checks pass (R179). -/
def State.stripeBody (s : State) (ps : List Byte) : Option (RequestBody × List RawPixel) :=
  match stripeShape ps with
  | none => none
  | some (layer, format, w, h) =>
    let q : Rect := { x := wordAt ps 2, y := wordAt ps 4, width := w, height := h }
    let payload := ps.drop 9
    if q.x ≤ 4095 ∧ q.y ≤ 4095 ∧ s.fitsCanvas q = true ∧ (format = .rgb666 → componentsFit payload = true) then
      some (.stripe layer format q 0, payloadPixels format payload)
    else none

/-- The body of a PUT FILL whose checks pass (R179). -/
def State.fillBody (s : State) (ps : List Byte) : Option RequestBody :=
  match layerOf (natAt ps 0) with
  | none => none
  | some layer =>
    let q : Rect := { x := wordAt ps 2, y := wordAt ps 4, width := wordAt ps 6, height := wordAt ps 8 }
    if natAt ps 1 ≤ 1 ∧ q.x ≤ 4095 ∧ q.y ≤ 4095 ∧ 1 ≤ q.width ∧ q.width ≤ 4096 ∧ 1 ≤ q.height ∧ q.height ≤ 4096 ∧
        s.fitsCanvas q = true ∧ componentsFit (ps.drop 10) = true then
      some (.fill layer q (colorOf (byteAt ps 10) (byteAt ps 11) (byteAt ps 12)) (decide (natAt ps 1 = 1)))
    else none

/-- The body of a PUT PALETTE whose checks pass (R180). -/
def paletteBody (ps : List Byte) : Option (RequestBody × List RawPixel) :=
  if paletteShape ps = true ∧ componentsFit (ps.drop 2) = true then
    some (.palette (natAt ps 0) (natAt ps 1) 0, (colorsOf (ps.drop 2)).map .rgb666)
  else none

/-- The body of a PUT LOOK whose checks pass (R180). -/
def lookBody (ps : List Byte) : Option RequestBody :=
  if natAt ps 0 ≤ 1 ∧ natAt ps 1 ≤ 1 ∧ natAt ps 2 ≤ 15 then
    some (.look { overlayVisible := decide (natAt ps 0 = 1), invert := decide (natAt ps 1 = 1), dim := (byteAt ps 2).setWidth 4 })
  else none

/-- A CONFIGURE that passes every check: the record is replaced whole, the digest computed, the burst being taken in abandoned with its
pending outcome, and the scan begun at row 0. The counters, the event flags and mask, and the mismatch station stay: what a completion has
counted is not taken back (R17, R39, R93, R146, R174; notes/assumptions/17.md). -/
def State.configureWith (s : State) (r : Record) : State :=
  let f := s.frame.passEnded
  { s with
    record := some r
    digest := some (crc r.wallBytes)
    join.station := .configured
    link := { Link.reset with view := .waiting }
    rx.outcome := none
    rx.undo := none
    frame := { f with scan := some f.newPass } }

/-- Every counter at 0, and nothing of a completion left to take back of them (R183). -/
def State.clearCounters (s : State) : State :=
  { s with port.counters := Counters.zero
           rx.undo := s.rx.undo.map fun u => { u with forced := 0, stalls := 0, checkFails := 0, stale := 0 } }

/-- A START taken in CONFIGURED (R144, R154, R175). -/
def State.startJoining (s : State) (r : Record) : State :=
  { s with
    join := { s.join with station := .joining, budget := Config.joinBudget, joinPending := true, welcomeWait := none,
                          quietLow := false, admission := none, reason := none }
    barrier.fillTag := none
    frame := s.frame.beginPasses r }.settle

end Sys2Proof.Machine
end

