-- ==== Sys2Proof/Machine/ContentCommands.lean ====
section
/-! DEFINITION. The meanings of the content commands of the local port: PUT STRIPE to FLUSH QUEUE (10, section 10.5; 07). -/

namespace Sys2Proof.Machine

/-- PUT_STRIPE (R171, R178, R179). -/
def execPutStripe (params : List Byte) (s : State) : Host.Outcome State Fault Refusal :=
  .next (s.receive 0x20 params stripeParams inContent fun ps t =>
    match t.stripeBody ps with
    | some (body, payload) => t.request body payload
    | none => (t, .illegal, []))

/-- PUT_FILL (R178, R179). -/
def execPutFill (params : List Byte) (s : State) : Host.Outcome State Fault Refusal :=
  .next (s.receive 0x21 params (fun _ => 13) inContent fun ps t =>
    match t.fillBody ps with
    | some body => t.request body []
    | none => (t, .illegal, []))

/-- PUT_PALETTE (R171, R178, R180). -/
def execPutPalette (params : List Byte) (s : State) : Host.Outcome State Fault Refusal :=
  .next (s.receive 0x22 params paletteParams inContent fun ps t =>
    match paletteBody ps with
    | some (body, payload) => t.request body payload
    | none => (t, .illegal, []))

/-- PUT_LOOK (R178, R180). -/
def execPutLook (params : List Byte) (s : State) : Host.Outcome State Fault Refusal :=
  .next (s.receive 0x23 params (fun _ => 3) inContent fun ps t =>
    match lookBody ps with
    | some body => t.request body []
    | none => (t, .illegal, []))

/-- END_FRAME (R181). -/
def execEndFrame (s : State) : Host.Outcome State Fault Refusal :=
  .next (s.receive 0x24 [] (fun _ => 0) inContent fun _ t => t.request .endFrame [])

/-- WITHDRAW (R181). -/
def execWithdraw (s : State) : Host.Outcome State Fault Refusal :=
  .next (s.receive 0x25 [] (fun _ => 0) inContent fun _ t => t.request .withdraw [])

/-- FLUSH_QUEUE (R129, R181). -/
def execFlushQueue (s : State) : Host.Outcome State Fault Refusal :=
  .next (s.receive 0x26 [] (fun _ => 0) inAll fun _ t => ((t.beside State.flushQueue State.flushQueue).settle, .ok, []))

end Sys2Proof.Machine
end

