-- ==== Sys2Proof/Machine/PictureEvents.lean ====
section
/-! DEFINITION. The meanings of the ends of commits and preparation passes, and of the line time of the scan (06, 08). These are the
steps that can make a flip, and after it the mark of damage that the last edge left to make (R139, R141). -/

namespace Sys2Proof.Machine

/-- STRIPE_COMMIT: the STRIPE being committed has been written, and its entry is removed (R8, R104, R105). -/
def execStripeCommit (s : State) : Host.Outcome State Fault Refusal :=
  match s.record, s.intake.committing, s.intake.queue with
  | some r, true, e :: _ =>
    match e.content with
    | .stripe l _ q slot => .next { s with frame := s.frame.writeStripe r s.intake.palette l q slot }.finishCommit.settle.makeMarks
    | .fill .. | .palette .. => .next s
  | _, _, _ => .next s

/-- FILL_COMMIT: the FILL being committed has been written, and its entry is removed (R9, R104, R106). -/
def execFillCommit (s : State) : Host.Outcome State Fault Refusal :=
  match s.record, s.intake.committing, s.intake.queue with
  | some r, true, e :: _ =>
    match e.content with
    | .fill l q color transparent =>
      .next { s with frame := s.frame.writeFill r l q color transparent fun _ => true }.finishCommit.settle.makeMarks
    | .stripe .. | .palette .. => .next s
  | _, _, _ => .next s

/-- PALETTE_COMMIT: the colours of the PALETTE being committed stand in the working palette, and its entry is removed (R104,
R107). -/
def execPaletteCommit (s : State) : Host.Outcome State Fault Refusal :=
  match s.intake.committing, s.intake.queue with
  | true, e :: _ =>
    match e.content with
    | .palette first slot =>
      .next { s with intake.palette := writePalette s.intake.palette first slot }.finishCommit.settle.makeMarks
    | .stripe .. | .fill .. => .next s
  | _, _ => .next s

/-- PREPARATION_PASS_END: the fill bank of the layer stands prepared, and the layer becomes STEADY, or FLIP PENDING while a flip
request stands (R138, R143). -/
def execPreparationPassEnd (layer : Layer) (s : State) : Host.Outcome State Fault Refusal :=
  match s.record with
  | some r =>
    if s.frame.layerState layer = .preparing then .next { s with frame := s.frame.endPass r layer }.settle.makeMarks else .next s
  | none => .next s

/-- LINE_TIME: the scan composites and latches one panel row and moves to the next; after row R − 1 the pass ends, and the next
begins on the banks then shown (R139, R146). -/
def execLineTime (s : State) : Host.Outcome State Fault Refusal :=
  match s.record, s.frame.scan with
  | some r, some sc =>
    if sc.row + 1 < r.rows then
      .next { s with frame := { s.frame with panel := some (s.frame.rowShown r sc), scan := some { sc with row := sc.row + 1 } } }
    else .next { s with frame := s.frame.lastRow r sc }.settle.makeMarks
  | _, _ => .next s

end Sys2Proof.Machine
end

