-- ==== Sys2Proof/Machine/PortCommands.lean ====
section
/-! DEFINITION. The meanings of the PSEL# edges and of the read, event and station-control commands of the local port (10). -/

namespace Sys2Proof.Machine

/-- PSEL_FALL: in DESELECTED a transaction begins, with the command buffer emptied (R170). -/
def execPselFall (s : State) : Host.Outcome State Fault Refusal :=
  if s.resetHeld = false ∧ s.port.phase = .deselected then
    .next { s with port.psel := .low, port.phase := .command, port.command := [] }
  else .next { s with port.psel := .low }

/-- PSEL_RISE: a command not yet taken is discarded, and PORT_TRUNCATED counts it when a bit of its command byte was sampled;
response bytes not shifted out are lost (R170, R171). While a hard reset is held, the port takes no transaction. -/
def execPselRise (bits : Nat) (s : State) : Host.Outcome State Fault Refusal :=
  let t : State := { s with port.psel := .high }
  if s.resetHeld then .next t
  else
    let u : State := { t with port.phase := .deselected, port.command := [], port.response := [] }
    match s.port.phase with
    | .waitHigh | .deselected => .next { t with port.phase := .deselected }
    | .command => .next (u.countIf (decide (0 < bits)) .portTruncated)
    | .parameters => .next (u.count .portTruncated)
    | .response => .next u

/-- READ_STATUS (R182). -/
def execReadStatus (s : State) : Host.Outcome State Fault Refusal :=
  .next (s.receive 0x01 [] (fun _ => 0) inAll fun _ t => (t, .ok, t.statusRecord))

/-- READ_ROSTER (R91). -/
def execReadRoster (s : State) : Host.Outcome State Fault Refusal :=
  .next (s.receive 0x02 [] (fun _ => 0) inAll fun _ t => (t, .ok, t.rosterRecord))

/-- READ_COUNTERS (R183). -/
def execReadCounters (s : State) : Host.Outcome State Fault Refusal :=
  .next (s.receive 0x03 [] (fun _ => 0) inAll fun _ t => (t, .ok, t.port.counters.bytes))

/-- CLEAR_COUNTERS (R183). -/
def execClearCounters (s : State) : Host.Outcome State Fault Refusal :=
  .next (s.receive 0x04 [] (fun _ => 0) inAll fun _ t => (t.clearCounters, .ok, []))

/-- TAKE_EVENTS: every pending flag is returned and cleared, disabled ones too (R184). -/
def execTakeEvents (s : State) : Host.Outcome State Fault Refusal :=
  .next (s.receive 0x05 [] (fun _ => 0) inAll fun _ t =>
    ({ t with port.events := 0 }, .ok, bytes16 (t.port.events.setWidth 16)))

/-- SET_EVENT_MASK: ILLEGAL when a bit above bit 10 is set (R185). -/
def execSetEventMask (params : List Byte) (s : State) : Host.Outcome State Fault Refusal :=
  .next (s.receive 0x06 params (fun _ => 2) inAll fun ps t =>
    if wordAt ps 0 < 2048 then ({ t with port.mask := BitVec.ofNat 11 (wordAt ps 0) }, .ok, []) else (t, .illegal, []))

/-- CONFIGURE: a record that passes every check replaces the old one; any other is ILLEGAL and changes nothing (R173, R174). -/
def execConfigure (params : List Byte) (s : State) : Host.Outcome State Fault Refusal :=
  .next (s.receive 0x10 params (fun _ => 20) inConfigure fun ps t =>
    match recordOf ps with
    | some r => (t.configureWith r, .ok, [])
    | none => (t, .illegal, []))

/-- START: the station enters JOINING (R154, R175). -/
def execStart (s : State) : Host.Outcome State Fault Refusal :=
  .next (s.receive 0x11 [] (fun _ => 0) inStart fun _ t =>
    match t.record with
    | some r => (t.startJoining r, .ok, [])
    | none => (t, .ok, []))

/-- RESET: the soft reset (R176). -/
def execReset (s : State) : Host.Outcome State Fault Refusal :=
  .next (s.receive 0x12 [] (fun _ => 0) inAll fun _ t => (t.softReset, .ok, []))

/-- READ_CONFIG (R177). -/
def execReadConfig (s : State) : Host.Outcome State Fault Refusal :=
  .next (s.receive 0x13 [] (fun _ => 0) inReadConfig fun _ t => (t, .ok, t.configRecord))

/-- UNKNOWN_COMMAND: a code that the command table does not list is taken at its command byte and answered UNKNOWN (R172). A code
of the table is no unknown command, and the row then stands for nothing. -/
def execUnknownCommand (code : Byte) (s : State) : Host.Outcome State Fault Refusal :=
  if code ∈ commandCodes then .next s
  else .next (s.receive code [] (fun _ => 0) inAll fun _ t => (t, .unknown, []))

end Sys2Proof.Machine
end

