-- ==== Sys2Proof/Machine/ResetEvents.lean ====
section
/-! DEFINITION. The meanings of HARD_RESET, HARD_RESET_END and START_UP_CLEAR_PASS (08, section 8.12; 00_scope.md 4.6). -/

namespace Sys2Proof.Machine

/-- HARD_RESET: the station is held in the state the hard reset gives (R150, R16, R30, R72, R92, R112, R134, R167, R186). -/
def execHardReset (s : State) : Host.Outcome State Fault Refusal := .next s.hardReset

/-- HARD_RESET_END: STARTING begins, and the port phase is DESELECTED or WAIT HIGH as PSEL# stands (R150, R170). -/
def execHardResetEnd (s : State) : Host.Outcome State Fault Refusal :=
  if s.resetHeld then
    .next { s with resetHeld := false
                   port.phase := match s.port.psel with
                     | .high => .deselected
                     | .low => .waitHigh }
  else .next s

/-- START_UP_CLEAR_PASS: the pass has written all four banks, and the station enters UNCONFIGURED (R150, R153). -/
def execStartUpClearPass (s : State) : Host.Outcome State Fault Refusal :=
  if s.join.station = .starting ∧ s.resetHeld = false then
    .next { s with join.station := .unconfigured
                   frame := { s.frame with baseA := [], baseB := [], overlayA := [], overlayB := [] } }
  else .next s

end Sys2Proof.Machine
end

