-- ==== Sys2Proof/Machine/SyncEvents.lean ====
section
/-! DEFINITION. The meanings of the events on WLS and of the timers that hang on it (02, section 2.10; 04; 09). -/

namespace Sys2Proof.Machine

/-- CONFIRMED_RISE: the confirmed level rises and the rise is handed to the Barrier Unit (R31, R64). The filter does not run in
STARTING, and a level that is not low, or not known, cannot rise (R32). -/
def execConfirmedRise (s : State) : Host.Outcome State Fault Refusal :=
  if s.join.station ≠ .starting ∧ s.barrier.confirmed = some .low then
    .next (State.takeRise { s with barrier.confirmed := some .high }).settle
  else .next s

/-- A confirmed fall at the Barrier Unit and the Join Controller (R31, R65, R156). -/
def State.takeFall (s : State) : State :=
  { s with barrier.confirmed := some .low, barrier.faultWatch := false
           join.quietLow := s.join.quietLow || decide (s.join.station = .listening) }

/-- CONFIRMED_FALL: the confirmed level falls; the quiet watch of a LISTENING station is set to seen low, and the fault watch is
clear, since the pin reads low (R31, R65, R156). -/
def execConfirmedFall (s : State) : Host.Outcome State Fault Refusal :=
  if s.join.station ≠ .starting ∧ s.barrier.confirmed = some .high then .next (s.beside State.takeFall State.takeFall)
  else .next s

/-- FIRST_CONFIRMED_LEVEL: after STARTING the filter takes its first value, neither a rise nor a fall (R32). -/
def execFirstConfirmedLevel (level : Level) (s : State) : Host.Outcome State Fault Refusal :=
  if s.join.station ≠ .starting ∧ s.barrier.confirmed = none then .next { s with barrier.confirmed := some level } else .next s

/-- The fault watch cleared (R65). -/
def State.clearFaultWatch (s : State) : State := { s with barrier.faultWatch := false }

/-- FAULT_WATCH_CLEAR: WLS at the pin reads low (R65). -/
def execFaultWatchClear (s : State) : Host.Outcome State Fault Refusal := .next (s.beside State.clearFaultWatch State.clearFaultWatch)

/-- The end of a re-drive delay that runs (R53). -/
def State.endRedrive (s : State) : State :=
  if s.barrier.redrive then
    { s with barrier.redrive := false
             barrier.driverLow := s.barrier.driverLow || decide (s.join.station = .member ∧ s.barrier.phase = some .filling) }
  else s

/-- REDRIVE_DELAY: the re-drive delay ends, and the driver goes low if the phase is still FILLING (R53). -/
def execRedriveDelay (s : State) : Host.Outcome State Fault Refusal := .next (s.beside State.endRedrive State.endRedrive)

/-- FRAME_PERIOD: the frame timer reaches P (R57, R58). -/
def execFramePeriod (s : State) : Host.Outcome State Fault Refusal := .next (s.beside State.reachPeriod State.reachPeriod)

/-- HOLD_LIMIT: the frame timer reaches H (R59). -/
def execHoldLimit (s : State) : Host.Outcome State Fault Refusal := .next (s.beside State.holdReached State.holdReached)

/-- STALL_LIMIT: the frame timer reaches H + P (R63). -/
def execStallLimit (s : State) : Host.Outcome State Fault Refusal := .next (s.beside State.reachStall State.reachStall)

/-- WELCOME_WAIT: the welcome-wait timer reaches 2 × P (R160, R161). -/
def execWelcomeWait (s : State) : Host.Outcome State Fault Refusal := .next s.expireWelcome

end Sys2Proof.Machine
end

