-- ==== Sys2Proof/Machine/Dispatch.lean ====
section
/-! DEFINITION. The dispatch of every command to its meaning. -/

namespace Sys2Proof.Machine

def exec (i : Instr) (s : State) : Host.Outcome State Fault Refusal :=
  match i with
  | .hardReset => Sys2Proof.Machine.execHardReset s
  | .hardResetEnd => Sys2Proof.Machine.execHardResetEnd s
  | .startUpClearPass => Sys2Proof.Machine.execStartUpClearPass s
  | .pselFall => Sys2Proof.Machine.execPselFall s
  | .pselRise bits => Sys2Proof.Machine.execPselRise bits s
  | .readStatus => Sys2Proof.Machine.execReadStatus s
  | .readRoster => Sys2Proof.Machine.execReadRoster s
  | .readCounters => Sys2Proof.Machine.execReadCounters s
  | .clearCounters => Sys2Proof.Machine.execClearCounters s
  | .takeEvents => Sys2Proof.Machine.execTakeEvents s
  | .setEventMask params => Sys2Proof.Machine.execSetEventMask params s
  | .configure params => Sys2Proof.Machine.execConfigure params s
  | .start => Sys2Proof.Machine.execStart s
  | .reset => Sys2Proof.Machine.execReset s
  | .readConfig => Sys2Proof.Machine.execReadConfig s
  | .putStripe params => Sys2Proof.Machine.execPutStripe params s
  | .putFill params => Sys2Proof.Machine.execPutFill params s
  | .putPalette params => Sys2Proof.Machine.execPutPalette params s
  | .putLook params => Sys2Proof.Machine.execPutLook params s
  | .endFrame => Sys2Proof.Machine.execEndFrame s
  | .withdraw => Sys2Proof.Machine.execWithdraw s
  | .flushQueue => Sys2Proof.Machine.execFlushQueue s
  | .unknownCommand code => Sys2Proof.Machine.execUnknownCommand code s
  | .busIdle => Sys2Proof.Machine.execBusIdle s
  | .startPeriod level => Sys2Proof.Machine.execStartPeriod level s
  | .lostArbitration => Sys2Proof.Machine.execLostArbitration s
  | .bitError => Sys2Proof.Machine.execBitError s
  | .completion level => Sys2Proof.Machine.execCompletion level s
  | .slotResult level => Sys2Proof.Machine.execSlotResult level s
  | .stripeCommit => Sys2Proof.Machine.execStripeCommit s
  | .fillCommit => Sys2Proof.Machine.execFillCommit s
  | .paletteCommit => Sys2Proof.Machine.execPaletteCommit s
  | .confirmedRise => Sys2Proof.Machine.execConfirmedRise s
  | .confirmedFall => Sys2Proof.Machine.execConfirmedFall s
  | .firstConfirmedLevel level => Sys2Proof.Machine.execFirstConfirmedLevel level s
  | .faultWatchClear => Sys2Proof.Machine.execFaultWatchClear s
  | .redriveDelay => Sys2Proof.Machine.execRedriveDelay s
  | .framePeriod => Sys2Proof.Machine.execFramePeriod s
  | .holdLimit => Sys2Proof.Machine.execHoldLimit s
  | .stallLimit => Sys2Proof.Machine.execStallLimit s
  | .lineTime => Sys2Proof.Machine.execLineTime s
  | .preparationPassEnd layer => Sys2Proof.Machine.execPreparationPassEnd layer s
  | .welcomeWait => Sys2Proof.Machine.execWelcomeWait s
  | .bitPeriodStart => Sys2Proof.Machine.execBitPeriodStart s
  | .bitSamplePoint level => Sys2Proof.Machine.execBitSamplePoint level s

end Sys2Proof.Machine
end

