-- ==== Sys2Proof/Machine/Timing.lean ====
section
/-! DEFINITION. The durations the manual gives, as views of the state. No step reads them: the moments they place reach the model
as commands (notes/assumptions/2.md). -/

namespace Sys2Proof.Machine

/-- The bit period in nanoseconds (R17). -/
def BitRate.periodNs : BitRate → Nat
  | .mbit1 => 1000
  | .mbit2 => 500
  | .mbit4 => 250

/-- The bit period the Link Unit works with; none without a record (R17, R30). -/
def State.bitPeriodNs (s : State) : Option Nat := s.record.map fun r => r.bitRate.periodNs

/-- The low time of a ONE in picoseconds: one quarter of the period (R17, R18). -/
def BitRate.oneLowPs (b : BitRate) : Nat := b.periodNs * 250

/-- The low time of a ZERO in picoseconds: three quarters of the period (R17, R18). -/
def BitRate.zeroLowPs (b : BitRate) : Nat := b.periodNs * 750

/-- The sample point in picoseconds from the start of the period: its half (R17, R18). -/
def BitRate.samplePs (b : BitRate) : Nat := b.periodNs * 500

/-- The idle time in nanoseconds: four bit periods (R17, R19). -/
def BitRate.idleNs (b : BitRate) : Nat := 4 * b.periodNs

/-- Whether a station sending `d` drives WLD low in quarter `q` (0–3) of the bit period (R18, R20, R26). -/
def Drive.lowIn : Drive → Fin 4 → Bool
  | .released, _ => false
  | .start, _ => true
  | .one, q => decide (q.val = 0)
  | .zero, q => decide (q.val ≤ 2)
  | .stretch, q => decide (q.val ≤ 2)

/-- The level of WLD in a quarter, from the drives of the wall's stations (R16, R18). -/
def lineIn (ds : List Drive) (q : Fin 4) : Level := if ds.any (fun d => d.lowIn q) then .low else .high

/-- Bit periods from the START edge to the end of the refusal slot, for a burst of `n` bytes with its check (R22). -/
def burstBitPeriods (n : Nat) : Nat := 8 * n + 2

/-- The time of a commit in units of 10 ns (R104). The commit of a FILL takes as long as the bank pixels it writes. -/
def Content.commitTime (r : Record) : Content → Nat
  | .stripe _ _ rect _ => 20 + 4 * (rect.width * rect.height)
  | .fill _ rect _ _ => 20 + 2 * (r.intersectionAddresses rect).length
  | .palette _ slot => 20 + 4 * slot.length

/-- The time of a preparation pass in units of 10 ns (R143). -/
def Record.passTime (r : Record) (layer : Layer) : Nat :=
  match r.mode layer with
  | .keep => 0
  | .carry | .clear => 20 + 2 * (r.columns * r.rows)

/-- The length of a scan pass in microseconds (R146). -/
def Record.scanPassUs (r : Record) : Nat := r.rows * r.lineTime

end Sys2Proof.Machine
end

