-- ==== Sys2Proof/Safety.lean ====
section
/-! DEFINITION. What a good state is, in the terms the statements use: one predicate for each kind of state, each of which every step
keeps. -/

namespace Sys2Proof.Safety

open Sys2Proof.Machine

/-- Every addressed store is in its canonical form: the four banks, the working palette and the staging store. -/
abbrev StoresWf (s : State) : Prop :=
  Memory.wf Color.black s.frame.baseA ∧ Memory.wf Color.black s.frame.baseB ∧
  Memory.wf OverlayPixel.clear s.frame.overlayA ∧ Memory.wf OverlayPixel.clear s.frame.overlayB ∧
  Memory.wf Color.black s.intake.palette ∧ Memory.wf (RawPixel.idx8 0) s.pub.staging

/-- The combinations of an entry's fields that R75 allows. -/
abbrev EntryLegal (e : RosterEntry) : Prop :=
  (e.state = .ended → e.overdue = 0) ∧ (e.state = .idle ∨ e.state = .active → e.overdue ≤ 2) ∧
  (e.state = .laggard → e.overdue = 3 ∧ e.silence ≤ 7) ∧ (e.state ≠ .laggard → e.silence = 0)

/-- The roster holds at most 16 entries, no two of one station, each with a legal combination of fields (R75). -/
abbrev RosterWf (s : State) : Prop :=
  s.roster.length ≤ 16 ∧ (s.roster.map RosterEntry.station).Nodup ∧ ∀ e ∈ s.roster, EntryLegal e

/-- The intake queue has at most 4 entries, a reserved place counted with them (R96, R97). -/
abbrev IntakeBounded (s : State) : Prop :=
  s.intake.queue.length + (if s.rx.reserved then 1 else 0) ≤ 4

/-- The missed list has at most 4 entries, no two of one identity (R100). -/
abbrev MissedWf (s : State) : Prop := s.rx.missed.length ≤ 4 ∧ s.rx.missed.Nodup

/-- The publish queue has at most 16 requests, their payloads take at most 4096 places, and each has fewer than 4 attempts (R115,
R123). -/
abbrev PublisherBounded (p : Publisher) : Prop :=
  p.queue.length ≤ 16 ∧ p.placesUsed ≤ 4096 ∧ ∀ q ∈ p.queue, q.attempts < 4

/-- The publish queue keeps its bounds, and so does the one that a truncation would put back (R28; notes/assumptions/31.md). -/
abbrev QueueBounded (s : State) : Prop :=
  PublisherBounded s.pub ∧ ∀ u ∈ s.rx.undo, PublisherBounded (s.putBack u).pub

/-- A station has a record exactly when it is past UNCONFIGURED; the record passed the checks of CONFIGURE, and its digest stands with
it (R39, R153, R173). -/
abbrev RecordWf (s : State) : Prop :=
  (∀ r ∈ s.record, r.valid = true) ∧ (s.digest = s.record.map fun r => crc r.wallBytes) ∧
  (s.record.isSome ↔ s.join.station ≠ .starting ∧ s.join.station ≠ .unconfigured)

/-- JOIN pending stands exactly in JOINING, with budget left; the welcome wait and the admission mark belong to LISTENING; the
observer reason is set exactly in OBSERVER (R154, R155, R156, R159, R163, R164). -/
abbrev JoinWf (s : State) : Prop :=
  (s.join.joinPending = true ↔ s.join.station = .joining) ∧ s.join.budget ≤ 4 ∧
  (s.join.station = .joining → 1 ≤ s.join.budget) ∧
  (s.join.welcomeWait.isSome → s.join.station = .listening ∧ s.join.admission = none) ∧
  (s.join.admission.isSome → s.join.station = .listening) ∧ (s.join.reason.isSome ↔ s.join.station = .observer)

/-- The fill tag is UNKNOWN outside LISTENING, MEMBER and OBSERVER, and in LISTENING it is known exactly while the station waits
with tag (R68, R158). -/
abbrev TagWf (s : State) : Prop :=
  (s.barrier.fillTag.isSome → s.join.station = .listening ∨ s.join.station = .member ∨ s.join.station = .observer) ∧
  (s.join.station = .listening → (s.barrier.fillTag.isSome ↔ s.join.admission = some .withTag))

/-- A JOIN is in transmission only in JOINING, every other burst only in MEMBER with a known tag, and a request only from the head
of the queue (R120, R121). -/
abbrev TransmissionWf (s : State) : Prop :=
  ∀ t ∈ s.pub.transmission,
    (t.source = .join → s.join.station = .joining) ∧
    (t.source ≠ .join → s.join.station = .member ∧ s.barrier.fillTag.isSome) ∧
    (t.source = .request → s.pub.queue ≠ [])

/-- The barrier has a phase exactly in MEMBER; WLS is driven low only in FILLING; the timer is 0 while stopped, and runs in MEMBER
and OBSERVER; FILLING ends before the hold limit, and STALLED begins at the stall limit (R52, R53, R54, R59, R63). -/
abbrev BarrierWf (s : State) : Prop :=
  (s.barrier.phase.isSome ↔ s.join.station = .member) ∧ (s.barrier.driverLow = true → s.barrier.phase = some .filling) ∧
  (s.barrier.timerRunning = false → s.barrier.timer = 0) ∧
  (s.barrier.timerRunning = true ↔ s.join.station = .member ∨ s.join.station = .observer) ∧
  (s.barrier.phase = some .filling → s.barrier.timer < s.holdLimit) ∧
  (s.barrier.phase = some .stalled → s.stallLimit ≤ s.barrier.timer)

/-- Both layers show the same bank; a layer waits for a flip only while a flip request stands, and a request stands only in MEMBER
or OBSERVER with no layer STEADY (R136, R137, R138). The scan runs exactly while a record stands, at a row below R, on the shown
banks, so that no pass shows rows of two frames (R140, R146, R148). -/
abbrev FrameWf (s : State) : Prop :=
  s.frame.shownBase = s.frame.shownOverlay ∧
  (s.frame.baseState = .flipPending ∨ s.frame.overlayState = .flipPending → s.frame.request.isSome) ∧
  (s.frame.request.isSome → s.frame.baseState ≠ .steady ∧ s.frame.overlayState ≠ .steady) ∧
  (s.frame.request.isSome → s.join.station = .member ∨ s.join.station = .observer) ∧
  (s.frame.scan.isSome ↔ s.record.isSome) ∧
  (∀ sc ∈ s.frame.scan, sc.base = s.frame.shownBase ∧ sc.overlay = s.frame.shownOverlay ∧ ∀ r ∈ s.record, sc.row < r.rows)

/-- The station states in which a station drives neither line (R16). -/
abbrev Silent (st : StationState) : Prop := st = .starting ∨ st = .unconfigured ∨ st = .configured ∨ st = .observer

/-- In the silent states both outputs are released and nothing is in transmission (R16). -/
abbrev LinesWf (s : State) : Prop :=
  Silent s.join.station → s.link.drive = .released ∧ s.pub.transmission = none ∧ s.barrier.driverLow = false

/-- The entries of the intake queue but for the one being committed. -/
def waitingEntries (s : State) : List IntakeEntry := if s.intake.committing then s.intake.queue.tail else s.intake.queue

/-- The entry being committed stands at the head of the queue, and every other entry, and the reserved one, bears the current fill
tag (R96, R103). -/
abbrev IntakeTagsWf (s : State) : Prop :=
  (s.intake.committing = true → s.intake.queue ≠ []) ∧
  (∀ e ∈ waitingEntries s, s.barrier.fillTag = some e.tag) ∧
  (∀ o ∈ s.rx.outcome, ∀ e, o.content = .reserved e → s.barrier.fillTag = some e.tag)

/-- What the blocks that make up the station's place in the wall keep together. -/
abbrev BlocksWf (s : State) : Prop :=
  RecordWf s ∧ JoinWf s ∧ TagWf s ∧ TransmissionWf s ∧ BarrierWf s ∧ FrameWf s ∧ LinesWf s ∧ IntakeTagsWf s

/-- What a completion does to the blocks it does from JOINING, LISTENING, MEMBER or OBSERVER, and an OBSERVER stays one. With current
content waiting, either it has made an OBSERVER, which takes every edge, or it has changed nothing that an edge could tell. -/
abbrev BesideWf (p t : State) : Prop :=
  (¬ Silent p.join.station ∨ p.join.station = .observer) ∧ (¬ Silent t.join.station ∨ t.join.station = .observer) ∧
  (p.join.station = .observer → t.join.station = .observer) ∧
  (waitingEntries t ≠ [] → t.join.station = .observer ∨
    (p.join.station = t.join.station ∧ p.barrier = t.barrier ∧ p.pub = t.pub ∧ p.frame = t.frame))

/-- What a truncation would take back is kept only between a completion and its slot, and the station that a truncation would put back
is in order (R28; notes/assumptions/31.md). -/
abbrev UndoWf (s : State) : Prop :=
  ∀ u ∈ s.rx.undo, s.link.view = .burst ∧ s.link.atSlot = true ∧ BlocksWf { s.putBack u with rx.outcome := none } ∧
    (u.blocks.isSome → BesideWf (s.putBack u) s)

/-- The station is in order, and so is the one that a truncation would put back. -/
abbrev WallWf (s : State) : Prop := BlocksWf s ∧ UndoWf s

/-- Nothing that the part does at once is left undone: no flip is due (R139), the engine is not IDLE before an eligible head
(R103), the barrier has answered the readiness that holds (R57–R61), a transmission that can begin has begun (R120), and a mark of
damage waits only while the flip of its frame is to come (R141). -/
abbrev Settled (s : State) : Prop :=
  (s.record.isSome → s.frame.flipDue = false) ∧
  (∀ e ∈ s.intake.queue.head?, s.intake.committing = false → e.content.eligible s.frame = false) ∧
  (s.join.station = .member → s.barrier.phase = some .filling → s.ready = false) ∧
  (s.join.station = .member → s.barrier.phase = some .ready ∨ s.barrier.phase = some .stalled →
    s.ready = true ∨ s.barrier.forced = true) ∧
  (s.link.view = .idle ∨ s.link.view = .opening → s.pub.transmission = none → s.candidate = none) ∧
  (s.frame.markDue = true → s.frame.request.isSome)

/-! ## The staging store (R116) -/

/-- A queue whose payloads take consecutive runs of places, the first beginning at `start` and the last ending before `stop`. A
request without a payload takes no places. -/
def runsFrom (start stop : Nat) : List Request → Prop
  | [] => start % 4096 = stop % 4096
  | q :: rest =>
    match q.body with
    | .stripe _ _ rect p => p % 4096 = start % 4096 ∧ runsFrom (start + rect.width * rect.height) stop rest
    | .palette _ count p => p % 4096 = start % 4096 ∧ runsFrom (start + count) stop rest
    | .fill .. | .look _ | .endFrame | .withdraw => runsFrom start stop rest

/-- The places in use are one run from the oldest payload to the newest, which the next payload follows (R116). -/
def OneRun (p : Publisher) : Prop := ∃ start, runsFrom start p.stagingNext p.queue

/-- The payloads are one run, and so are those that a truncation would put back (R116, R28). -/
def RunsWf (s : State) : Prop := OneRun s.pub ∧ ∀ u ∈ s.rx.undo, OneRun (s.putBack u).pub

/-! ## A command taken at the port -/

/-- The station in which a port command of these bytes has been taken and answered, with nothing else changed (R170, R172). -/
def taken (s : State) (command response : List Byte) : State :=
  { s with port := { s.port with phase := .response, command := command, response := response } }

/-- The station after a taken command whose effect the station settled: the response stands in the response buffer (R172). -/
def answered (s : State) (response : List Byte) : State := { s.settle with port := { s.settle.port with response := response } }

/-- The station states in which the content commands are taken (R178). -/
abbrev TakesContent (st : StationState) : Prop := st = .joining ∨ st = .listening ∨ st = .member

/-! ## A burst taken in -/

/-- The station after a list of bits, each sampled at its level, high for a ONE, by BIT_SAMPLE_POINT; the first of each pair says
whether a BIT_PERIOD_START comes before it. -/
def afterBits (s : State) : List (Bool × Bool) → State
  | [] => s
  | (begun, b) :: bits =>
    match (if begun then exec .bitPeriodStart s else .next s) with
    | .next u =>
      match exec (.bitSamplePoint (if b then .high else .low)) u with
      | .next t => afterBits t bits
      | _ => u
    | _ => s

/-- The station at the completion of a burst, before the classification: the last bit taken in and the slot to come (R22). -/
def completed (s : State) (l : Level) : State :=
  { s with link := { s.link with bitOpen := false, atSlot := true }, rx := s.rx.takeBit (decide (l = .high)) }

/-- A COMPLETION can be taken: the next bit is the last of the check, its period runs, and a transmitter reads back what it sent. -/
abbrev CanComplete (s : State) (l : Level) : Prop :=
  s.link.view = .burst ∧ s.link.atSlot = false ∧ s.link.bitOpen = true ∧ s.rx.atLastBit = true ∧ s.record.isSome ∧
  (s.sending = none ∨ s.sending = some (decide (l = .high)))

/-- The station without what a truncation would take back, the model's own field (notes/assumptions/31.md). -/
def forgetting (s : State) : State := { s with rx := { s.rx with undo := none } }

/-- A command answers the next state `t`, with what a truncation takes back left open while such a thing is kept: the model's own field
(notes/assumptions/31.md). -/
def Gives (o : Host.Outcome State Fault Refusal) (t : State) : Prop :=
  ∃ x, o = .next x ∧ forgetting x = forgetting t ∧ (t.rx.undo = none → x = t)

/-- No duplicate is acted on: the burst bears another station's number, is the station's own, or comes to a station that discards the
finding (R50). -/
abbrev NoDuplicate (s : State) (r : Record) (sender : StationNumber) : Prop :=
  sender ≠ r.station ∨ s.pub.transmission ≠ none ∨ s.join.station = .configured ∨ s.join.station = .observer

/-- A number as two bytes, the high byte first (00_scope.md 4.4). -/
def highLow (n : Nat) : List Byte := [BitVec.ofNat 8 (n / 256), BitVec.ofNat 8 n]

end Sys2Proof.Safety
end

