-- ==== Sys2Proof/WellFormed.lean ====
section
/-! DEFINITION. Which commands are well formed: the parameter bytes of a local-port command are exactly those the command has, an
unknown command's code is not in the command table, and the bits of a command byte cut short are fewer than eight. -/

namespace Sys2Proof

open Sys2Proof.Machine

/-- A command as a whole taking, or a whole event, of the part (R169, R171, R172). A command that is not well formed has a meaning
too: fewer bytes than the command has leave it untaken, more are ignored. -/
def Instr.wellFormed : Instr → Bool
  | .setEventMask params => decide (params.length = 2)
  | .configure params => decide (params.length = 20)
  | .putStripe params => decide (params.length = stripeParams params)
  | .putFill params => decide (params.length = 13)
  | .putPalette params => decide (params.length = paletteParams params)
  | .putLook params => decide (params.length = 3)
  | .unknownCommand code => !decide (code ∈ commandCodes)
  | .pselRise bits => decide (bits ≤ 7)
  | .hardReset | .hardResetEnd | .startUpClearPass | .pselFall | .readStatus | .readRoster | .readCounters | .clearCounters
  | .takeEvents | .start | .reset | .readConfig | .endFrame | .withdraw | .flushQueue | .busIdle | .startPeriod _
  | .lostArbitration | .bitError | .completion _ | .slotResult _ | .stripeCommit | .fillCommit | .paletteCommit
  | .confirmedRise | .confirmedFall | .firstConfirmedLevel _ | .faultWatchClear | .redriveDelay | .framePeriod | .holdLimit
  | .stallLimit | .lineTime | .preparationPassEnd _ | .welcomeWait | .bitPeriodStart | .bitSamplePoint _ => true

/-- The bytes that a local-port command clocks in: its code and its parameter bytes; none for an event (R169). -/
def Instr.portBytes : Instr → List Byte
  | .readStatus => [0x01]
  | .readRoster => [0x02]
  | .readCounters => [0x03]
  | .clearCounters => [0x04]
  | .takeEvents => [0x05]
  | .setEventMask params => 0x06 :: params
  | .configure params => 0x10 :: params
  | .start => [0x11]
  | .reset => [0x12]
  | .readConfig => [0x13]
  | .putStripe params => 0x20 :: params
  | .putFill params => 0x21 :: params
  | .putPalette params => 0x22 :: params
  | .putLook params => 0x23 :: params
  | .endFrame => [0x24]
  | .withdraw => [0x25]
  | .flushQueue => [0x26]
  | .unknownCommand code => [code]
  | .hardReset | .hardResetEnd | .startUpClearPass | .pselFall | .pselRise _ | .busIdle | .startPeriod _
  | .lostArbitration | .bitError | .completion _ | .slotResult _ | .stripeCommit | .fillCommit | .paletteCommit
  | .confirmedRise | .confirmedFall | .firstConfirmedLevel _ | .faultWatchClear | .redriveDelay | .framePeriod | .holdLimit
  | .stallLimit | .lineTime | .preparationPassEnd _ | .welcomeWait | .bitPeriodStart | .bitSamplePoint _ => []

end Sys2Proof
end

