-- ==== Sys2Proof/Certificates/Slice0/Obligations.lean ====
section
/-! DEFINITION. The statements for the provers. -/

open Sys2Proof Sys2Proof.Machine Sys2Proof.Safety

/-! ## The step -/

/-- The step runs the command at the front of the queue on the state with the queue's rest. -/
def Obligations.StepRunsFrontCommand : Prop :=
  ∀ (c : Instr) (rest : List Instr) (s : State), step { s with pending := c :: rest } = exec c { s with pending := rest }

/-- Every command, well formed or not, in every state, ends in a next state, and none touches the queue of waiting commands
(notes/assumptions/1.md, notes/assumptions/12.md). -/
def Obligations.EveryCommandEndsAndKeepsTheQueue : Prop :=
  ∀ (c : Instr) (s : State), ∃ t, exec c s = .next t ∧ t.pending = s.pending

/-- On an empty queue a step is 100 µs of the running timers, with the commands of their limits at the limits (the model's choice,
notes/assumptions/2.md; the limits are those of R54, R57, R59, R63 and R160). A timer that reaches H so after a release in the unit
before has passed it since: the release time stays (notes/assumptions/33.md). -/
def Obligations.IdleStepCountsTheTimers : Prop :=
  ∀ (s : State) (r : Record), s.pending = [] → s.record = some r → r.valid = true →
    (s.barrier.timerRunning = false → s.join.welcomeWait = none → Gives (step s) s) ∧
    (s.barrier.timerRunning = true → s.join.welcomeWait = none → s.barrier.timer = 65535 → Gives (step s) s) ∧
    (s.barrier.timerRunning = true → s.join.welcomeWait = none → s.barrier.timer < 65535 →
      (s.barrier.timer + 1 = r.framePeriod → ∃ t, exec .framePeriod s = .next t ∧ Gives (step s) t) ∧
      (s.barrier.timer + 1 = r.holdMultiple * r.framePeriod →
        (s.barrier.phase ≠ some .ready ∨ s.barrier.forced = true ∨ s.barrier.releaseTime ≠ s.barrier.timer →
          ∃ t, exec .holdLimit s = .next t ∧ Gives (step s) t) ∧
        (s.barrier.phase = some .ready → Gives (step s) { s with barrier.timer := s.barrier.timer + 1 })) ∧
      (s.barrier.timer + 1 = r.holdMultiple * r.framePeriod + r.framePeriod → ∃ t, exec .stallLimit s = .next t ∧ Gives (step s) t) ∧
      (s.barrier.timer + 1 ≠ r.framePeriod → s.barrier.timer + 1 ≠ r.holdMultiple * r.framePeriod →
        s.barrier.timer + 1 ≠ r.holdMultiple * r.framePeriod + r.framePeriod →
        Gives (step s) { s with barrier.timer := s.barrier.timer + 1 })) ∧
    (∀ n, s.barrier.timerRunning = false → s.join.welcomeWait = some n →
      (n + 1 < 2 * r.framePeriod → Gives (step s) { s with join.welcomeWait := some (n + 1) }) ∧
      (2 * r.framePeriod ≤ n + 1 → ∃ t, exec .welcomeWait s = .next t ∧ Gives (step s) t))

/-! ## Resets -/

/-- HARD_RESET leaves every item as the tables of the hard reset give it, whatever the state before; PSEL# is a pin. The rest is the
model's choice: the banks keep what they held until the start-up clear pass, with a commit or a preparation pass running too, which
writes none of its pixels (notes/assumptions/30.md); every place of the staging store reads IDX8 index 0 and the next run begins at
place 0 (notes/assumptions/9.md); the counts inside the Link Unit and the Receiver have the model's values (notes/assumptions/4.md), and
so have the pins and the port phase while the reset is held (notes/assumptions/24.md); no mark of damage is due and no completion is
kept for a truncation, which are the model's own fields (notes/assumptions/13.md, notes/assumptions/31.md). -/
def Obligations.HardResetResetsEveryBlock : Prop :=
  ∀ s : State, exec .hardReset s = .next
    { resetHeld := true, record := none, digest := none,
      join := { station := .starting, budget := 0, joinPending := false, welcomeWait := none, quietLow := false, admission := none,
                edgeCount := 0, reason := none, mismatch := none },
      link := { view := .off, idleCount := 0, bitOpen := false, atSlot := false, refuse := false, drive := .released },
      rx := { body := [], check := [], shift := 0, bitCount := 0, received := 0, bodyLength := none, running := 0xFFFF,
              outcome := none, undo := none, missed := [], overflow := false },
      roster := [], intake := { queue := [], committing := false, palette := [] },
      barrier := { phase := none, driverLow := false, redrive := false, timer := 0, timerRunning := false, fillTag := none,
                   forced := false, releaseTime := 0, openDamage := false, faultWatch := false,
                   cadence := { interval := 0, ownRelease := 0, forced := false, damaged := false, skipped := false },
                   confirmed := none },
      pub := { queue := [], staging := [], stagingNext := 0, held := false, transmission := none, welcomePending := false,
               spaceWanted := false },
      frame := { s.frame with
        shownBase := .a, shownOverlay := .a, baseState := .steady, overlayState := .steady, request := none, markDue := false,
        stage := none, look := { overlayVisible := true, invert := false, dim := 0 }, scan := none, panel := none },
      port := { psel := s.port.psel, phase := .waitHigh, command := [], response := [], events := 0, mask := 0x7FF,
                counters := ⟨0, 0, 0, 0, 0, 0, 0, 0, 0, 0, 0, 0, 0, 0⟩ },
      freeIndex := s.freeIndex, pending := s.pending }

/-- HARD_RESET_END ends a hard reset that is held: the port phase is DESELECTED with PSEL# high and WAIT HIGH with PSEL# low, and
the start-up clear pass, at its end, leaves every position of every bank black or transparent and brings the station to
UNCONFIGURED; neither changes anything else. -/
def Obligations.StartUpReachesUnconfigured : Prop :=
  (∀ s : State, s.resetHeld = true → s.port.psel = .high →
    exec .hardResetEnd s = .next { s with resetHeld := false, port.phase := .deselected }) ∧
  (∀ s : State, s.resetHeld = true → s.port.psel = .low →
    exec .hardResetEnd s = .next { s with resetHeld := false, port.phase := .waitHigh }) ∧
  (∀ s : State, s.resetHeld = false → s.join.station = .starting → ∃ t,
    exec .startUpClearPass s = .next
      { s with join.station := .unconfigured
               frame := { s.frame with baseA := t.frame.baseA, baseB := t.frame.baseB, overlayA := t.frame.overlayA,
                                       overlayB := t.frame.overlayB } } ∧
    (∀ a bank, Memory.read Color.black (t.frame.base bank) a = ⟨0, 0, 0⟩) ∧
    (∀ a bank, Memory.read OverlayPixel.clear (t.frame.overlay bank) a = ⟨⟨0, 0, 0⟩, false⟩) ∧
    exec .startUpClearPass s = .next t)

/-- RESET leaves every item as the tables of the soft reset give it: what is kept is named, and the rest is reset, with a commit in
progress and a preparation pass running too, which it abandons. The shown banks stay as they are, and with no commit and no pass so
do the fill banks and the palette. Otherwise each position of a fill bank and each entry of the palette holds its old value, or the
one that the pass or the commit would have written there; which of the two is free (notes/assumptions/5.md, notes/assumptions/6.md).
The counts inside the Link Unit and the Receiver have the model's values (notes/assumptions/4.md); no mark of damage is due and no
completion is kept for a truncation, which are the model's own fields (notes/assumptions/13.md, notes/assumptions/31.md). -/
def Obligations.SoftResetKeepsAndResets : Prop :=
  ∀ s : State, s.port.phase = .command → ∃ (fr : FrameStore) (palette : Memory Color),
    exec .reset s = .next
      { s with
        join := { station := match s.join.station with
                    | .starting => .starting
                    | .unconfigured => .unconfigured
                    | .configured | .joining | .listening | .member | .observer => .configured
                  budget := 0, joinPending := false, welcomeWait := none, quietLow := false, admission := none, edgeCount := 0,
                  reason := none, mismatch := none }
        link := { view := if s.record.isSome then .waiting else .off, idleCount := 0, bitOpen := false, atSlot := false,
                  refuse := false, drive := .released }
        rx := { body := [], check := [], shift := 0, bitCount := 0, received := 0, bodyLength := none, running := 0xFFFF,
                outcome := none, undo := none, missed := [], overflow := false }
        roster := []
        intake := { queue := [], committing := false, palette := palette }
        barrier := { phase := none, driverLow := false, redrive := false, timer := 0, timerRunning := false, fillTag := none,
                     forced := false, releaseTime := 0, openDamage := false, faultWatch := false,
                     cadence := { interval := 0, ownRelease := 0, forced := false, damaged := false, skipped := false },
                     confirmed := s.barrier.confirmed }
        pub := { s.pub with queue := [], held := false, transmission := none, welcomePending := false, spaceWanted := false }
        frame := { fr with baseState := .steady, overlayState := .steady, request := none, markDue := false, stage := none }
        port := { s.port with phase := .response, command := [0x12], response := [0x00], events := 0,
                              counters := ⟨0, 0, 0, 0, 0, 0, 0, 0, 0, 0, 0, 0, 0, 0⟩ }
        freeIndex := s.freeIndex + 1 } ∧
    fr = { s.frame with baseA := fr.baseA, baseB := fr.baseB, overlayA := fr.overlayA, overlayB := fr.overlayB } ∧
    fr.base fr.shownBase = s.frame.base s.frame.shownBase ∧ fr.overlay fr.shownOverlay = s.frame.overlay s.frame.shownOverlay ∧
    (s.intake.committing = false → palette = s.intake.palette) ∧
    (s.intake.committing = false → s.frame.baseState ≠ .preparing → s.frame.overlayState ≠ .preparing → fr = s.frame) ∧
    (StoresWf s → ∀ (r : Record) (a : Nat), s.record = some r →
      let inUse := a % 128 < r.columns ∧ a / 128 < r.rows
      let under (c : Content) : Prop := s.intake.committing = true ∧ (s.intake.queue.head?.map IntakeEntry.content) = some c
      (Memory.read Color.black fr.baseFill a = Memory.read Color.black s.frame.baseFill a ∨
        (s.frame.baseState = .preparing ∧ inUse ∧
          (r.baseMode = .carry ∧ Memory.read Color.black fr.baseFill a = Memory.read Color.black (s.frame.base s.frame.shownBase) a ∨
           r.baseMode = .clear ∧ Memory.read Color.black fr.baseFill a = ⟨0, 0, 0⟩)) ∨
        (∃ f q slot k, ∃ h : k < slot.length, under (.stripe .base f q slot) ∧
          r.addressOf (q.x + k % q.width) (q.y + k / q.width) = some a ∧
          Memory.read Color.black fr.baseFill a = expand s.intake.palette slot[k]) ∨
        (∃ q color transparent, under (.fill .base q color transparent) ∧ a ∈ r.intersectionAddresses q ∧
          Memory.read Color.black fr.baseFill a = color)) ∧
      (Memory.read OverlayPixel.clear fr.overlayFill a = Memory.read OverlayPixel.clear s.frame.overlayFill a ∨
        (s.frame.overlayState = .preparing ∧ inUse ∧
          (r.overlayMode = .carry ∧ Memory.read OverlayPixel.clear fr.overlayFill a =
              Memory.read OverlayPixel.clear (s.frame.overlay s.frame.shownOverlay) a ∨
           r.overlayMode = .clear ∧ Memory.read OverlayPixel.clear fr.overlayFill a = ⟨⟨0, 0, 0⟩, false⟩)) ∨
        (∃ f q slot k, ∃ h : k < slot.length, under (.stripe .overlay f q slot) ∧
          r.addressOf (q.x + k % q.width) (q.y + k / q.width) = some a ∧
          Memory.read OverlayPixel.clear fr.overlayFill a =
            if slot[k] = .idx8 0 then ⟨⟨0, 0, 0⟩, false⟩ else ⟨expand s.intake.palette slot[k], true⟩) ∨
        (∃ q color transparent, under (.fill .overlay q color transparent) ∧ a ∈ r.intersectionAddresses q ∧
          Memory.read OverlayPixel.clear fr.overlayFill a = if transparent then ⟨⟨0, 0, 0⟩, false⟩ else ⟨color, true⟩)) ∧
      (Memory.read Color.black palette a = Memory.read Color.black s.intake.palette a ∨
        ∃ first slot, under (.palette first slot) ∧ first ≤ a ∧ some (Memory.read Color.black palette a) = slot[a - first]?))

/-! ## Transactions at the local port -/

/-- PSEL# falling and rising in every phase of the port: what begins and ends a transaction, what is discarded, and what
PORT_TRUNCATED counts; and PDO, bit by bit: high impedance while a hard reset is held and with PSEL# high; with it low, the response
bytes in RESPONSE, most significant bit first, with zero bits after the last, and zero bits in COMMAND and PARAMETERS. That the other
two phases, WAIT HIGH after a reset that ended with PSEL# low among them, carry zero bits too is the model's choice
(notes/assumptions/7.md). While a hard reset is held only the pin moves (notes/assumptions/24.md). -/
def Obligations.PselEdgesBeginAndEndTransactions : Prop :=
  ∀ s : State,
    (∀ shifted : Nat,
      (s.resetHeld = true ∨ s.port.psel = .high → s.pdo shifted = none) ∧
      (s.resetHeld = false → s.port.psel = .low → s.port.phase ≠ .response → s.pdo shifted = some false) ∧
      (s.resetHeld = false → s.port.psel = .low → s.port.phase = .response → s.pdo shifted =
        some (match s.port.response[shifted / 8]? with
          | some b => b.getLsbD (7 - shifted % 8)
          | none => false))) ∧
    (s.resetHeld = false → s.port.phase = .deselected →
      exec .pselFall s = .next { s with port := { s.port with psel := .low, phase := .command, command := [] } }) ∧
    (s.resetHeld = true ∨ s.port.phase ≠ .deselected → exec .pselFall s = .next { s with port.psel := .low }) ∧
    ∀ bits : Nat,
      (s.resetHeld = true → exec (.pselRise bits) s = .next { s with port.psel := .high }) ∧
      (s.resetHeld = false →
        (s.port.phase = .waitHigh ∨ s.port.phase = .deselected →
          exec (.pselRise bits) s = .next { s with port := { s.port with psel := .high, phase := .deselected } }) ∧
        (s.port.phase = .response ∨ s.port.phase = .command ∧ bits = 0 →
          exec (.pselRise bits) s = .next
            { s with port := { s.port with psel := .high, phase := .deselected, command := [], response := [] } }) ∧
        (s.port.phase = .parameters ∨ s.port.phase = .command ∧ 0 < bits →
          exec (.pselRise bits) s = .next
            { s with port := { s.port with
                psel := .high, phase := .deselected, command := [], response := [],
                counters := { s.port.counters with portTruncated := saturate s.port.counters.portTruncated } } }))

/-- Each command byte picks its command, and a byte outside the table UNKNOWN_COMMAND. A port command in any phase but COMMAND,
and one with fewer bytes than it has, is not taken: the first changes nothing, the second leaves the port in PARAMETERS
(notes/assumptions/7.md, notes/assumptions/19.md); and how many parameter bytes PUT STRIPE and PUT PALETTE have, judged at the
ninth and at the second byte. -/
def Obligations.PortCommandsNeedAWholeTransaction : Prop :=
  ((∀ (c : Instr) (code : Byte) (ps : List Byte), c.wellFormed = true → c.portBytes = code :: ps → portCommand code ps = c) ∧
   (∀ (c : Instr) (s : State), c.portBytes ≠ [] → s.port.phase ≠ .command → exec c s = .next s) ∧
   (∀ (ps : List Byte) (s : State), s.port.phase = .command →
     (ps.length < 2 → exec (.setEventMask ps) s = .next { s with port := { s.port with phase := .parameters, command := 0x06 :: ps } }) ∧
     (ps.length < 20 → exec (.configure ps) s = .next { s with port := { s.port with phase := .parameters, command := 0x10 :: ps } }) ∧
     (ps.length < stripeParams ps →
       exec (.putStripe ps) s = .next { s with port := { s.port with phase := .parameters, command := 0x20 :: ps } }) ∧
     (ps.length < 13 → exec (.putFill ps) s = .next { s with port := { s.port with phase := .parameters, command := 0x21 :: ps } }) ∧
     (ps.length < paletteParams ps →
       exec (.putPalette ps) s = .next { s with port := { s.port with phase := .parameters, command := 0x22 :: ps } }) ∧
     (ps.length < 3 → exec (.putLook ps) s = .next { s with port := { s.port with phase := .parameters, command := 0x23 :: ps } }))) ∧
  ((∀ ps : List Byte, ps.length < 9 → stripeParams ps = 9) ∧
   (∀ ps : List Byte, 9 ≤ ps.length →
     (natAt ps 0 ≤ 1 → natAt ps 1 ≤ 2 → 1 ≤ wordAt ps 6 → wordAt ps 6 ≤ 512 → 1 ≤ natAt ps 8 → natAt ps 8 ≤ 16 →
       wordAt ps 6 * natAt ps 8 ≤ 512 → stripeParams ps = 9 + wordAt ps 6 * natAt ps 8 * (natAt ps 1 + 1)) ∧
     (¬ (natAt ps 0 ≤ 1 ∧ natAt ps 1 ≤ 2 ∧ 1 ≤ wordAt ps 6 ∧ wordAt ps 6 ≤ 512 ∧ 1 ≤ natAt ps 8 ∧ natAt ps 8 ≤ 16 ∧
       wordAt ps 6 * natAt ps 8 ≤ 512) → stripeParams ps = 9)) ∧
   (∀ ps : List Byte, ps.length < 2 → paletteParams ps = 2) ∧
   (∀ ps : List Byte, 2 ≤ ps.length →
     (1 ≤ natAt ps 1 → natAt ps 1 ≤ 16 → natAt ps 0 + natAt ps 1 ≤ 256 → paletteParams ps = 2 + 3 * natAt ps 1) ∧
     (¬ (1 ≤ natAt ps 1 ∧ natAt ps 1 ≤ 16 ∧ natAt ps 0 + natAt ps 1 ≤ 256) → paletteParams ps = 2)))

/-- A command taken in a station state that the command table does not list for it is answered STATE, and a code that the table
does not list is answered UNKNOWN; neither has another effect. -/
def Obligations.UnlistedCommandsAnswerStateOrUnknown : Prop :=
  ∀ s : State, s.port.phase = .command →
    (s.join.station ≠ .unconfigured → s.join.station ≠ .configured →
      ∀ ps : List Byte, ps.length = 20 → exec (.configure ps) s = .next (taken s (0x10 :: ps) [0x03])) ∧
    (s.join.station ≠ .configured → exec .start s = .next (taken s [0x11] [0x03])) ∧
    (s.join.station = .starting ∨ s.join.station = .unconfigured → exec .readConfig s = .next (taken s [0x13] [0x03])) ∧
    (¬ TakesContent s.join.station →
      (∀ ps : List Byte, ps.length = stripeParams ps → exec (.putStripe ps) s = .next (taken s (0x20 :: ps) [0x03])) ∧
      (∀ ps : List Byte, ps.length = 13 → exec (.putFill ps) s = .next (taken s (0x21 :: ps) [0x03])) ∧
      (∀ ps : List Byte, ps.length = paletteParams ps → exec (.putPalette ps) s = .next (taken s (0x22 :: ps) [0x03])) ∧
      (∀ ps : List Byte, ps.length = 3 → exec (.putLook ps) s = .next (taken s (0x23 :: ps) [0x03])) ∧
      exec .endFrame s = .next (taken s [0x24] [0x03]) ∧ exec .withdraw s = .next (taken s [0x25] [0x03])) ∧
    (∀ code : Byte, code ∉ ([0x01, 0x02, 0x03, 0x04, 0x05, 0x06, 0x10, 0x11, 0x12, 0x13, 0x20, 0x21, 0x22, 0x23, 0x24, 0x25,
        0x26] : List Byte) →
      exec (.unknownCommand code) s = .next (taken s [code] [0x04]))

/-- READ_STATUS answers the 16-byte status record, READ_ROSTER the count and three bytes for each entry in list order,
READ_COUNTERS the 14 counters in order, every field as it stands at the taking, and none changes anything else. -/
def Obligations.ReadsReturnTheRecords : Prop :=
  (∀ s : State, s.port.phase = .command →
     exec .readStatus s = .next (taken s [0x01]
       ([0x00,
         match s.join.station with
           | .starting => 0 | .unconfigured => 1 | .configured => 2 | .joining => 3 | .listening => 4 | .member => 5 | .observer => 6,
         match s.join.reason with
           | none => 0 | some .refused => 1 | some .duplicate => 2,
         match s.barrier.phase with
           | none => 0 | some .filling => 1 | some .ready => 2 | some .stalled => 3,
         match s.barrier.fillTag with
           | none => 255 | some tag => BitVec.ofNat 8 tag.toNat,
         match s.engine with
           | .blocked => 0 | .idle => 1 | .contending => 2 | .sending => 3 | .held => 4,
         BitVec.ofNat 8 s.pub.queue.length] ++ highLow (4096 - (s.pub.queue.map fun q => q.body.places).sum) ++
        [BitVec.ofNat 8 s.intake.queue.length, BitVec.ofNat 8 s.roster.length, BitVec.ofNat 8 s.rx.missed.length,
         BitVec.ofNat 8 ((if s.barrier.cadence.forced then 1 else 0) + (if s.barrier.cadence.damaged then 2 else 0) +
           (if s.barrier.cadence.skipped then 4 else 0))] ++
        highLow s.barrier.cadence.interval ++ highLow s.barrier.cadence.ownRelease))) ∧
  (∀ s : State, s.port.phase = .command →
     ((∀ e ∈ s.roster, EntryLegal e) →
       exec .readRoster s = .next (taken s [0x02] (0x00 :: BitVec.ofNat 8 s.roster.length :: s.roster.flatMap fun e =>
         [BitVec.ofNat 8 e.station.toNat,
          BitVec.ofNat 8 ((if e.heard then 128 else 0) + match e.state with
            | .idle => 0 | .active => 1 | .ended => 2 | .laggard => 3),
          BitVec.ofNat 8 (16 * e.overdue + e.silence)]))) ∧
     exec .readCounters s = .next (taken s [0x03] (0x00 ::
       [s.port.counters.swaps, s.port.counters.forced, s.port.counters.stalls, s.port.counters.damaged, s.port.counters.sent,
        s.port.counters.refusedTx, s.port.counters.dropped, s.port.counters.bitErrors, s.port.counters.refusalsSent,
        s.port.counters.checkFails, s.port.counters.stale, s.port.counters.truncated, s.port.counters.rosterOverflow,
        s.port.counters.portTruncated].flatMap fun v => highLow v.toNat)))

/-- CLEAR_COUNTERS sets all 14 counters to 0; TAKE_EVENTS returns every pending flag, by its bit, and clears them all; a count
adds one to its own counter, which stays at 65535 once there; an event sets its own flag; and nothing else changes, but that no count
cleared is left for a truncation to take back (the model's own field, notes/assumptions/31.md). -/
def Obligations.CountersAndEvents : Prop :=
  (∀ s : State, s.port.phase = .command →
     exec .clearCounters s = .next
       (taken { s with port.counters := ⟨0, 0, 0, 0, 0, 0, 0, 0, 0, 0, 0, 0, 0, 0⟩
                       rx.undo := s.rx.undo.map fun u => { u with forced := 0, stalls := 0, checkFails := 0, stale := 0 } }
         [0x04] [0x00]) ∧
     exec .takeEvents s = .next (taken { s with port.events := 0 } [0x05] (0x00 :: highLow s.port.events.toNat))) ∧
  ((∀ (s : State) (k : Counter),
     (s.count k).port.counters.get k = (if s.port.counters.get k = 65535 then 65535 else s.port.counters.get k + 1) ∧
     (∀ j, j ≠ k → (s.count k).port.counters.get j = s.port.counters.get j) ∧
     s.count k = { s with port.counters := (s.count k).port.counters }) ∧
   (∀ (s : State) (e : Event) (n : Nat), n < 11 →
     (s.raise e).port.events.getLsbD n = (s.port.events.getLsbD n || e.bit.getLsbD n) ∧
     s.raise e = { s with port.events := (s.raise e).port.events }) ∧
   [Event.shown, .damage, .overdue, .stall, .drop, .space, .roster, .joined, .refused, .duplicate, .mismatch].map Event.bit =
     (List.range 11).map fun n => BitVec.ofNat 11 (2 ^ n))

/-- SET_EVENT_MASK replaces the mask, or is ILLEGAL with the mask left when one of bits 11 to 15 is set; and PATN# is low exactly
while some event is pending whose mask bit is set. -/
def Obligations.EventMaskGovernsPatn : Prop :=
  (∀ (a b : Byte) (s : State), s.port.phase = .command →
    (a.toNat < 8 → exec (.setEventMask [a, b]) s =
      .next (taken { s with port.mask := BitVec.ofNat 11 (256 * a.toNat + b.toNat) } [0x06, a, b] [0x00])) ∧
    (8 ≤ a.toNat → exec (.setEventMask [a, b]) s = .next (taken s [0x06, a, b] [0x02]))) ∧
  (∀ s : State, s.patnLow = true ↔ ∃ n, n < 11 ∧ s.port.events.getLsbD n = true ∧ s.port.mask.getLsbD n = true)

/-! ## The configuration record -/

/-- A CONFIGURE of 20 bytes in UNCONFIGURED or CONFIGURED is answered ILLEGAL, with nothing changed, unless every check of the record
table, of the geometry and of the scan-pass fit passes; one that passes replaces the record whole, computes the digest over its ten
wall-wide bytes, brings the station to CONFIGURED, abandons a burst being taken in (its pending outcome with it,
notes/assumptions/17.md), and begins the scan at row 0 on the shown banks; it writes no bank and leaves the rest, the counters, the event
flags and mask and the mismatch station among them. -/
def Obligations.ConfigureChecksAndReplacesTheRecord : Prop :=
  (∀ (ps : List Byte) (s : State), s.port.phase = .command → s.join.station = .unconfigured ∨ s.join.station = .configured →
     ps.length = 20 →
     let C := natAt ps 10
     let R := natAt ps 11
     let turned := 4 ≤ natAt ps 1
     let ok := natAt ps 0 ≤ 31 ∧ natAt ps 1 ≤ 7 ∧ 16 ≤ wordAt ps 2 ∧ wordAt ps 2 ≤ 4096 ∧ 16 ≤ wordAt ps 4 ∧ wordAt ps 4 ≤ 4096 ∧
       wordAt ps 6 ≤ 4095 ∧ wordAt ps 8 ≤ 4095 ∧ 16 ≤ C ∧ C ≤ 128 ∧ 16 ≤ R ∧ R ≤ 96 ∧
       20 ≤ wordAt ps 12 ∧ wordAt ps 12 ≤ 500 ∧ 80 ≤ wordAt ps 14 ∧ wordAt ps 14 ≤ 1000 ∧ 2 ≤ natAt ps 16 ∧ natAt ps 16 ≤ 8 ∧
       natAt ps 17 ≤ 2 ∧ natAt ps 18 ≤ 2 ∧ natAt ps 19 ≤ 2 ∧
       wordAt ps 6 + (if turned then R else C) ≤ wordAt ps 2 ∧ wordAt ps 8 + (if turned then C else R) ≤ wordAt ps 4 ∧
       R * wordAt ps 12 ≤ wordAt ps 14 * 100
     (¬ ok → exec (.configure ps) s = .next (taken s (0x10 :: ps) [0x02])) ∧
     (ok → ∃ t, exec (.configure ps) s = .next t ∧ t.port.response = [0x00])) ∧
  (∀ (ps : List Byte) (r : Record) (s : State), s.port.phase = .command →
     s.join.station = .unconfigured ∨ s.join.station = .configured → ps.length = 20 → recordOf ps = some r →
     exec (.configure ps) s = .next
       (taken { s with
           record := some r
           digest := some (crc ((ps.drop 2).take 4 ++ (ps.drop 14).take 6))
           join.station := .configured
           link := { view := .waiting, idleCount := 0, bitOpen := false, atSlot := false, refuse := false, drive := .released }
           rx := { s.rx with outcome := none, undo := none }
           frame := { s.frame with
             request := s.frame.request.map fun q => { q with passEnd := true }
             scan := some { row := 0, base := s.frame.shownBase, overlay := s.frame.shownOverlay } } }
         (0x10 :: ps) [0x00]))

/-- The 20 bytes of a record and the record they carry: every valid record is read back from its own bytes, and a record read from
20 bytes has exactly those bytes, so no byte and no bit of a byte of the record is dropped. Field by field: which byte or bytes, high
byte first, each field is read from, and the orientation, the bit rate and the carry modes by code. -/
def Obligations.RecordBytesRoundTrip : Prop :=
  (∀ (bs : List Byte) (r : Record), bs.length = 20 → recordOf bs = some r →
    let byte (i : Nat) : Nat := (bs.getD i 0).toNat
    let word (i : Nat) : Nat := 256 * byte i + byte (i + 1)
    r.station.toNat = byte 0 ∧
    (byte 1, r.orientation) ∈ [(0, Orientation.n), (1, .nm), (2, .r180), (3, .r180m), (4, .r90), (5, .r90m), (6, .r270), (7, .r270m)] ∧
    r.canvasWidth = word 2 ∧ r.canvasHeight = word 4 ∧ r.originX = word 6 ∧ r.originY = word 8 ∧ r.columns = byte 10 ∧
    r.rows = byte 11 ∧ r.lineTime = word 12 ∧ r.framePeriod = word 14 ∧ r.holdMultiple = byte 16 ∧
    (byte 17, r.bitRate) ∈ [(0, BitRate.mbit1), (1, .mbit2), (2, .mbit4)] ∧
    (byte 18, r.baseMode) ∈ [(0, CarryMode.keep), (1, .carry), (2, .clear)] ∧
    (byte 19, r.overlayMode) ∈ [(0, CarryMode.keep), (1, .carry), (2, .clear)]) ∧
  (∀ r : Record, r.valid = true → r.bytes.length = 20 ∧ recordOf r.bytes = some r) ∧
  (∀ (bs : List Byte) (r : Record), bs.length = 20 → recordOf bs = some r → r.bytes = bs ∧ r.valid = true)

/-- After a CONFIGURE answered OK, PSEL# up and down again, READ_CONFIG answers the 20 bytes that the CONFIGURE carried, the
digest over their ten wall-wide bytes, and the mismatch station, 255 for none; in every station state that lists it, it answers
those of the record in force, and changes nothing else. -/
def Obligations.ReadConfigReturnsTheConfigureBytes : Prop :=
  (∀ (ps : List Byte) (s t1 t2 t3 : State), s.port.phase = .command → s.resetHeld = false →
     s.join.station = .unconfigured ∨ s.join.station = .configured → ps.length = 20 → (recordOf ps).isSome →
     exec (.configure ps) s = .next t1 → exec (.pselRise 0) t1 = .next t2 → exec .pselFall t2 = .next t3 →
     exec .readConfig t3 = .next (taken t3 [0x13]
       (0x00 :: (ps ++ highLow (crc ((ps.drop 2).take 4 ++ (ps.drop 14).take 6)).toNat ++
         [match s.join.mismatch with
           | none => 255
           | some n => BitVec.ofNat 8 n.toNat])))) ∧
  (∀ (s : State) (r : Record) (d : BitVec 16), s.port.phase = .command → s.join.station ≠ .starting →
     s.join.station ≠ .unconfigured → s.record = some r → s.digest = some d →
     exec .readConfig s = .next (taken s [0x13] (0x00 :: (r.bytes ++ highLow d.toNat ++
       [match s.join.mismatch with
         | none => 255
         | some n => BitVec.ofNat 8 n.toNat]))))

/-- START in CONFIGURED brings the station to JOINING with a budget of 4 and the JOIN pending, its tag UNKNOWN, and each layer
begins the preparation pass of its carry mode, which in KEEP ends at once. -/
def Obligations.StartBeginsTheJoin : Prop :=
  ∀ (s : State) (r : Record), s.port.phase = .command → s.join.station = .configured → s.record = some r →
    s.frame.request = none →
    exec .start s = .next (answered
      { s with
        join := { s.join with station := .joining, budget := 4, joinPending := true, welcomeWait := none, quietLow := false,
                              admission := none, reason := none }
        barrier.fillTag := none
        frame := { s.frame with
          baseState := if r.baseMode = .keep then .steady else .preparing
          overlayState := if r.overlayMode = .keep then .steady else .preparing }
        port := { s.port with phase := .response, command := [0x11] } }
      [0x00])

/-! ## Content requests and the Publisher -/

/-- PUT_LOOK, PUT_FILL, END_FRAME and WITHDRAW whose checks pass, with room in the queue, append their request with no attempts
used, and what that makes due follows. -/
def Obligations.RequestsWithoutPayloadAreQueued : Prop :=
  ∀ s : State, s.port.phase = .command → TakesContent s.join.station → s.pub.queue.length < 16 → s.pub.placesUsed ≤ 4096 →
    (exec .endFrame s = .next (answered
      { s with pub := { s.pub with queue := s.pub.queue ++ [{ body := .endFrame, attempts := 0 }], stagingNext := s.pub.stagingNext % 4096 }
               port := { s.port with phase := .response, command := [0x24] } } [0x00])) ∧
    (exec .withdraw s = .next (answered
      { s with pub := { s.pub with queue := s.pub.queue ++ [{ body := .withdraw, attempts := 0 }], stagingNext := s.pub.stagingNext % 4096 }
               port := { s.port with phase := .response, command := [0x25] } } [0x00])) ∧
    (∀ visible invert dim : Byte, visible.toNat ≤ 1 → invert.toNat ≤ 1 → dim.toNat ≤ 15 →
      exec (.putLook [visible, invert, dim]) s = .next (answered
        { s with pub := { s.pub with
                   queue := s.pub.queue ++
                     [{ body := .look ⟨decide (visible = 1), decide (invert = 1), BitVec.ofNat 4 dim.toNat⟩, attempts := 0 }]
                   stagingNext := s.pub.stagingNext % 4096 }
                 port := { s.port with phase := .response, command := [0x23, visible, invert, dim] } } [0x00])) ∧
    (∀ (ps : List Byte) (r : Record), ps.length = 13 → s.record = some r → natAt ps 0 ≤ 1 → natAt ps 1 ≤ 1 → wordAt ps 2 ≤ 4095 →
      wordAt ps 4 ≤ 4095 → 1 ≤ wordAt ps 6 → wordAt ps 6 ≤ 4096 → 1 ≤ wordAt ps 8 → wordAt ps 8 ≤ 4096 →
      wordAt ps 2 + wordAt ps 6 ≤ r.canvasWidth → wordAt ps 4 + wordAt ps 8 ≤ r.canvasHeight →
      natAt ps 10 ≤ 63 → natAt ps 11 ≤ 63 → natAt ps 12 ≤ 63 →
      exec (.putFill ps) s = .next (answered
        { s with pub := { s.pub with
                   queue := s.pub.queue ++
                     [{ body := .fill (if natAt ps 0 = 1 then .overlay else .base)
                          ⟨wordAt ps 2, wordAt ps 4, wordAt ps 6, wordAt ps 8⟩
                          ⟨BitVec.ofNat 6 (natAt ps 10), BitVec.ofNat 6 (natAt ps 11), BitVec.ofNat 6 (natAt ps 12)⟩
                          (decide (natAt ps 1 = 1)), attempts := 0 }]
                   stagingNext := s.pub.stagingNext % 4096 }
                 port := { s.port with phase := .response, command := 0x21 :: ps } } [0x00]))

/-- PUT_STRIPE and PUT_PALETTE whose checks pass, with room in the queue and in the staging store, append their request, whose
payload then reads back from the staging store pixel for pixel, and leave every payload queued before it as it was. -/
def Obligations.PayloadsAreStagedWhole : Prop :=
  ∀ (s : State) (r : Record), s.port.phase = .command → TakesContent s.join.station → s.record = some r → OneRun s.pub →
    Memory.wf (RawPixel.idx8 0) s.pub.staging → s.pub.queue.length < 16 →
    (∀ ps : List Byte, ps.length = stripeParams ps → natAt ps 0 ≤ 1 → natAt ps 1 ≤ 2 → 1 ≤ wordAt ps 6 → wordAt ps 6 ≤ 512 →
      1 ≤ natAt ps 8 → natAt ps 8 ≤ 16 → wordAt ps 6 * natAt ps 8 ≤ 512 → wordAt ps 2 ≤ 4095 → wordAt ps 4 ≤ 4095 →
      wordAt ps 2 + wordAt ps 6 ≤ r.canvasWidth → wordAt ps 4 + natAt ps 8 ≤ r.canvasHeight →
      (natAt ps 1 = 2 → ∀ b ∈ ps.drop 9, b.toNat ≤ 63) → wordAt ps 6 * natAt ps 8 + s.pub.placesUsed ≤ 4096 →
      ∃ (p : Publisher) (q : Request), exec (.putStripe ps) s = .next (answered
          { s with pub := p, port := { s.port with phase := .response, command := 0x20 :: ps } } [0x00]) ∧
        p = { s.pub with queue := s.pub.queue ++ [q], staging := p.staging, stagingNext := p.stagingNext } ∧ q.attempts = 0 ∧
        (∃ start, q.body = .stripe (if natAt ps 0 = 1 then .overlay else .base)
          (if natAt ps 1 = 0 then .idx8 else if natAt ps 1 = 1 then .rgb565 else .rgb666)
          ⟨wordAt ps 2, wordAt ps 4, wordAt ps 6, natAt ps 8⟩ start) ∧
        p.payloadOf q.body = payloadPixels
          (if natAt ps 1 = 0 then .idx8 else if natAt ps 1 = 1 then .rgb565 else .rgb666) (ps.drop 9) ∧
        ∀ q' ∈ s.pub.queue, p.payloadOf q'.body = s.pub.payloadOf q'.body) ∧
    (∀ ps : List Byte, ps.length = paletteParams ps → 1 ≤ natAt ps 1 → natAt ps 1 ≤ 16 → natAt ps 0 + natAt ps 1 ≤ 256 →
      (∀ b ∈ ps.drop 2, b.toNat ≤ 63) → natAt ps 1 + s.pub.placesUsed ≤ 4096 →
      ∃ (p : Publisher) (q : Request), exec (.putPalette ps) s = .next (answered
          { s with pub := p, port := { s.port with phase := .response, command := 0x22 :: ps } } [0x00]) ∧
        p = { s.pub with queue := s.pub.queue ++ [q], staging := p.staging, stagingNext := p.stagingNext } ∧ q.attempts = 0 ∧
        (∃ start, q.body = .palette (natAt ps 0) (natAt ps 1) start) ∧ p.payloadOf q.body = (colorsOf (ps.drop 2)).map .rgb666 ∧
        ∀ q' ∈ s.pub.queue, p.payloadOf q'.body = s.pub.payloadOf q'.body)

/-- A content command whose checks fail is answered ILLEGAL with nothing changed, check by check; one that finds no room, in a settled
station, is answered FULL: the queue of 16 is full, or the payload needs more places than are free. Nothing is queued and the
space-wanted mark is set. -/
def Obligations.ContentCommandsTurnedAway : Prop :=
  (∀ (s : State) (r : Record) (ps : List Byte), s.port.phase = .command → TakesContent s.join.station → s.record = some r →
     (ps.length = stripeParams ps →
       ¬ (natAt ps 0 ≤ 1 ∧ natAt ps 1 ≤ 2 ∧ 1 ≤ wordAt ps 6 ∧ wordAt ps 6 ≤ 512 ∧ 1 ≤ natAt ps 8 ∧ natAt ps 8 ≤ 16 ∧
           wordAt ps 6 * natAt ps 8 ≤ 512 ∧ wordAt ps 2 ≤ 4095 ∧ wordAt ps 4 ≤ 4095 ∧
           wordAt ps 2 + wordAt ps 6 ≤ r.canvasWidth ∧ wordAt ps 4 + natAt ps 8 ≤ r.canvasHeight ∧
           (natAt ps 1 = 2 → ∀ b ∈ ps.drop 9, b.toNat ≤ 63)) →
       exec (.putStripe ps) s = .next (taken s (0x20 :: ps) [0x02])) ∧
     (ps.length = 13 →
       ¬ (natAt ps 0 ≤ 1 ∧ natAt ps 1 ≤ 1 ∧ wordAt ps 2 ≤ 4095 ∧ wordAt ps 4 ≤ 4095 ∧ 1 ≤ wordAt ps 6 ∧ wordAt ps 6 ≤ 4096 ∧
           1 ≤ wordAt ps 8 ∧ wordAt ps 8 ≤ 4096 ∧ wordAt ps 2 + wordAt ps 6 ≤ r.canvasWidth ∧
           wordAt ps 4 + wordAt ps 8 ≤ r.canvasHeight ∧ natAt ps 10 ≤ 63 ∧ natAt ps 11 ≤ 63 ∧ natAt ps 12 ≤ 63) →
       exec (.putFill ps) s = .next (taken s (0x21 :: ps) [0x02])) ∧
     (ps.length = paletteParams ps →
       ¬ (1 ≤ natAt ps 1 ∧ natAt ps 1 ≤ 16 ∧ natAt ps 0 + natAt ps 1 ≤ 256 ∧ ∀ b ∈ ps.drop 2, b.toNat ≤ 63) →
       exec (.putPalette ps) s = .next (taken s (0x22 :: ps) [0x02])) ∧
     (ps.length = 3 → ¬ (natAt ps 0 ≤ 1 ∧ natAt ps 1 ≤ 1 ∧ natAt ps 2 ≤ 15) →
       exec (.putLook ps) s = .next (taken s (0x23 :: ps) [0x02]))) ∧
  (∀ s : State, s.port.phase = .command → TakesContent s.join.station → Settled s →
     (s.pub.queue.length = 16 →
       exec .endFrame s = .next (taken { s with pub.spaceWanted := true } [0x24] [0x01]) ∧
       exec .withdraw s = .next (taken { s with pub.spaceWanted := true } [0x25] [0x01]) ∧
       (∀ ps body, ps.length = 3 → lookBody ps = some body →
         exec (.putLook ps) s = .next (taken { s with pub.spaceWanted := true } (0x23 :: ps) [0x01])) ∧
       (∀ ps body, ps.length = 13 → s.fillBody ps = some body →
         exec (.putFill ps) s = .next (taken { s with pub.spaceWanted := true } (0x21 :: ps) [0x01]))) ∧
     (∀ ps body payload, ps.length = stripeParams ps → s.stripeBody ps = some (body, payload) →
       s.pub.queue.length = 16 ∨ 4096 < s.pub.placesUsed + wordAt ps 6 * natAt ps 8 →
       exec (.putStripe ps) s = .next (taken { s with pub.spaceWanted := true } (0x20 :: ps) [0x01])) ∧
     (∀ ps body payload, ps.length = paletteParams ps → paletteBody ps = some (body, payload) →
       s.pub.queue.length = 16 ∨ 4096 < s.pub.placesUsed + natAt ps 1 →
       exec (.putPalette ps) s = .next (taken { s with pub.spaceWanted := true } (0x22 :: ps) [0x01])))

/-- R181: END_FRAME and WITHDRAW are taken at their command byte and answered FULL when the queue holds 16 requests and OK
otherwise; FLUSH_QUEUE is answered OK in every station state, removes the requests as R129 gives, and changes nothing in a settled
station without requests. -/
def Obligations.EndFrameWithdrawAndFlushQueueAnswers : Prop :=
  ∀ s : State, s.port.phase = .command →
    (TakesContent s.join.station → s.pub.queue.length ≤ 16 → s.pub.placesUsed ≤ 4096 →
      ∀ c : Instr, c = .endFrame ∨ c = .withdraw → ∃ t, exec c s = .next t ∧ t.port.phase = .response ∧
        t.port.response = [if s.pub.queue.length = 16 then 0x01 else 0x00]) ∧
    (∃ t, exec .flushQueue s = .next t ∧ t.port.phase = .response ∧ t.port.response = [0x00]) ∧
    (s.pub.queue = [] → WallWf s → Settled s → Gives (exec .flushQueue s) (taken s [0x26] [0x00])) ∧
    (s.pub.queue ≠ [] → s.pub.sendingRequest = false →
      Gives (exec .flushQueue s) (answered
        { s with pub := { s.pub with queue := [], spaceWanted := false }
                 port := { s.port with phase := .response, command := [0x26]
                                       events := if s.pub.spaceWanted then s.port.events ||| 0x020 else s.port.events } } [0x00])) ∧
    (∀ q rest t, s.pub.queue = q :: rest → s.pub.transmission = some t → t.source = .request →
      Gives (exec .flushQueue s) (answered
        { s with pub := { s.pub with
                   queue := [q], stagingNext := s.pub.nextAfterHead, transmission := some { t with flush := true }
                   spaceWanted := s.pub.spaceWanted && rest.isEmpty }
                 port := { s.port with phase := .response, command := [0x26]
                                       events := if s.pub.spaceWanted && !rest.isEmpty then s.port.events ||| 0x020
                                                 else s.port.events } } [0x00]))

/-- The outcome of a request's transmission, by the report, the edge-seen mark and the flush mark: what becomes of the request, of
the engine, of the counters SENT, REFUSED_TX and DROPPED, and of the events DROP and SPACE. -/
def Obligations.RequestOutcomes : Prop :=
  ∀ (s : State) (t : Transmission) (q : Request) (rest : List Request), s.pub.transmission = some t → t.source = .request →
    s.pub.queue = q :: rest →
    let removed (c : Counters) (ev : BitVec 11) (held : Bool) : State :=
      { s with pub := { s.pub with queue := rest, transmission := none, spaceWanted := false, held := s.pub.held || held }
               port := { s.port with counters := c, events := ev ||| (if s.pub.spaceWanted then 0x020 else 0) } }
    let kept (c : Counters) (n : Nat) : State :=
      { s with pub := { s.pub with queue := { q with attempts := n } :: rest, transmission := none }
               port := { s.port with counters := c } }
    let isEnd := decide (q.body = .endFrame)
    let overtaken := t.edgeSeen = true ∧ q.body ≠ .withdraw
    let sent : Counters := { s.port.counters with sent := saturate s.port.counters.sent }
    let refusedTx : Counters := { s.port.counters with refusedTx := saturate s.port.counters.refusedTx }
    let drop (c : Counters) : Counters := { c with dropped := saturate c.dropped }
    (s.report .lost = if t.flush then removed s.port.counters s.port.events false else
      { s with pub := { s.pub with transmission := none } }) ∧
    (overtaken → ∀ r, r = .delivered ∨ r = .refused ∨ r = .bitError →
      s.report r = if t.flush = true ∨ q.body = .endFrame then removed s.port.counters s.port.events false
        else kept s.port.counters 0) ∧
    (¬ overtaken →
      s.report .delivered = removed sent s.port.events isEnd ∧
      (t.flush = true →
        s.report .refused = removed refusedTx s.port.events isEnd ∧
        s.report .bitError = removed s.port.counters s.port.events isEnd) ∧
      (t.flush = false → q.attempts < 3 →
        s.report .refused = kept refusedTx (q.attempts + 1) ∧ s.report .bitError = kept s.port.counters (q.attempts + 1)) ∧
      (t.flush = false → q.attempts = 3 →
        s.report .refused = removed (drop refusedTx) (s.port.events ||| 0x010) isEnd ∧
        s.report .bitError = removed (drop s.port.counters) (s.port.events ||| 0x010) isEnd))

/-- The outcome of a JOIN: LOST changes nothing; a delivered one brings the station to LISTENING with a new welcome wait; a refused
one or a bit error spends one of the budget, and with the budget spent the station becomes OBSERVER with reason REFUSED. The outcome
of a WELCOME: a delivered one counts SENT and a refused one REFUSED_TX; LOST and a bit error count neither; and none changes WELCOME
pending, which the burst itself clears at its slot result when it is well-formed. -/
def Obligations.JoinAndWelcomeOutcomes : Prop :=
  (∀ (s : State) (t : Transmission), s.pub.transmission = some t → t.source = .join → s.join.station = .joining →
      s.join.joinPending = true → 1 ≤ s.join.budget →
      s.report .lost = { s with pub.transmission := none } ∧
      s.report .delivered =
        { s with
          join := { s.join with station := .listening, budget := s.join.budget - 1, joinPending := false, welcomeWait := some 0,
                                quietLow := decide (s.barrier.confirmed = some .low) }
          pub := { s.pub with transmission := none }
          port := { s.port with counters := { s.port.counters with sent := saturate s.port.counters.sent } } } ∧
      ∀ r, r = .refused ∨ r = .bitError →
        let counters : Counters := if r = .refused then { s.port.counters with refusedTx := saturate s.port.counters.refusedTx }
          else s.port.counters
        (2 ≤ s.join.budget → s.report r =
          { s with join.budget := s.join.budget - 1, pub.transmission := none, port.counters := counters }) ∧
        (s.join.budget = 1 → s.report r =
          { s with
            join := { s.join with station := .observer, budget := 0, joinPending := false, welcomeWait := none, quietLow := false,
                                  admission := none, reason := some .refused }
            link := { s.link with drive := .released, refuse := false }
            barrier := { s.barrier with phase := none, driverLow := false, faultWatch := false, redrive := false, forced := false,
                                        releaseTime := 0, timer := 0, timerRunning := true }
            pub := { s.pub with queue := [], held := false, transmission := none, welcomePending := false, spaceWanted := false }
            port := { s.port with counters := counters, events := s.port.events ||| 0x100 } })) ∧
  (∀ (s : State) (t : Transmission), s.pub.transmission = some t → t.source = .welcome →
    let done : State := { s with pub := { s.pub with transmission := none } }
    s.report .lost = done ∧ s.report .bitError = done ∧
    s.report .delivered = { done with port.counters := { s.port.counters with sent := saturate s.port.counters.sent } } ∧
    s.report .refused = { done with port.counters := { s.port.counters with refusedTx := saturate s.port.counters.refusedTx } })

/-- The engine state, from the station state, the fill tag, the queue, the transmission and the END outcome: the five cases of the
table. The arbiter at a moment when a transmission can begin: JOIN in JOINING, then WELCOME, then the queue head of a CONTENDING
engine, each with its bytes under the tag current now; the START begins or is joined at once. At every other moment, and with no
candidate, it hands over nothing. -/
def Obligations.ArbiterRanksTheCandidates : Prop :=
  (∀ s : State,
    let sends := ∃ t, s.pub.transmission = some t ∧ t.source = .request
    (s.join.station ≠ .member ∨ s.barrier.fillTag = none → s.engine = .blocked) ∧
    (s.join.station = .member → s.barrier.fillTag ≠ none →
      (sends → s.engine = .sending) ∧
      (¬ sends → s.pub.held = true → s.engine = .held) ∧
      (¬ sends → s.pub.held = false → s.pub.queue = [] → s.engine = .idle) ∧
      (¬ sends → s.pub.held = false → s.pub.queue ≠ [] → s.engine = .contending))) ∧
  (∀ (s : State) (r : Record), s.record = some r →
      let start (source : TxSource) (bytes : List Byte) (tag : Option Tag) : State :=
        { s with link := { s.link with view := .opening, drive := .start }
                 pub := { s.pub with transmission := some { source := source, bytes := bytes, tag := tag, edgeSeen := false,
                                                            flush := false } } }
      ((s.link.view = .idle ∨ s.link.view = .opening) → s.pub.transmission = none →
        (∀ d, s.join.station = .joining → s.join.joinPending = true → s.digest = some d →
          s.arbitrate = start .join (withCheck ([0#3 ++ r.station, 0] ++ highLow d.toNat)) none) ∧
        (∀ tag, s.join.station = .member → s.barrier.fillTag = some tag → s.pub.welcomePending = true →
          s.arbitrate = start .welcome (withCheck [1#3 ++ r.station, tag ++ 0#4]) (some tag)) ∧
        (∀ tag q rest, s.join.station = .member → s.barrier.fillTag = some tag → s.pub.welcomePending = false →
          s.pub.held = false → s.pub.queue = q :: rest →
          s.arbitrate = start .request (withCheck (q.body.bytes r.station tag (s.pub.payloadOf q.body)))
            (if q.body = .withdraw then none else some tag)) ∧
        (s.join.station ≠ .joining → s.join.station ≠ .member → s.arbitrate = s) ∧
        (s.join.station = .member → s.pub.welcomePending = false → s.pub.held = true ∨ s.pub.queue = [] → s.arbitrate = s) ∧
        (s.join.station = .member → s.barrier.fillTag = none → s.arbitrate = s)) ∧
      (s.link.view = .off ∨ s.link.view = .waiting ∨ s.link.view = .burst ∨ s.pub.transmission ≠ none → s.arbitrate = s))

/-- The bytes of every burst that the station can queue, judged by a receiver with the same canvas: the length is fixed by the
fields, the judgement is well formed, and what the receiver reads is what was queued, with the sender, the kind and the tag. -/
def Obligations.QueuedRequestsAreWellFormedBursts : Prop :=
  ∀ (n : StationNumber) (tag : Tag) (cw ch : Nat),
    (∀ (l : Layer) (f : Format) (q : Rect) (start : Nat) (payload : List RawPixel), q.fits cw ch = true → cw ≤ 4096 → ch ≤ 4096 →
      1 ≤ q.width → q.width ≤ 512 → 1 ≤ q.height → q.height ≤ 16 → q.width * q.height ≤ 512 →
      payload.length = q.width * q.height →
      (∀ p ∈ payload, match f, p with
        | .idx8, .idx8 _ => True
        | .rgb565, .rgb565 _ => True
        | .rgb666, .rgb666 _ => True
        | _, _ => False) →
      let bs := RequestBody.bytes n tag payload (.stripe l f q start)
      fixedLength bs = some (bs.length - 2) ∧ senderIn (byteAt bs 0) = n ∧ kindIn (byteAt bs 0) = .stripe ∧
        tagIn (byteAt bs 1) = tag ∧ formOf cw ch bs = some (.content (.stripe l f q payload))) ∧
    (∀ (l : Layer) (q : Rect) (c : Color) (transparent : Bool), q.fits cw ch = true → cw ≤ 4096 → ch ≤ 4096 → 1 ≤ q.width →
      1 ≤ q.height →
      let bs := RequestBody.bytes n tag [] (.fill l q c transparent)
      fixedLength bs = some (bs.length - 2) ∧ senderIn (byteAt bs 0) = n ∧ kindIn (byteAt bs 0) = .fill ∧
        tagIn (byteAt bs 1) = tag ∧ formOf cw ch bs = some (.content (.fill l q c transparent))) ∧
    (∀ (first start : Nat) (cs : List Color), 1 ≤ cs.length → cs.length ≤ 16 → first + cs.length ≤ 256 →
      let bs := RequestBody.bytes n tag (cs.map .rgb666) (.palette first cs.length start)
      fixedLength bs = some (bs.length - 2) ∧ senderIn (byteAt bs 0) = n ∧ kindIn (byteAt bs 0) = .palette ∧
        tagIn (byteAt bs 1) = tag ∧ formOf cw ch bs = some (.content (.palette first cs))) ∧
    (∀ l : Look,
      let bs := RequestBody.bytes n tag [] (.look l)
      fixedLength bs = some (bs.length - 2) ∧ senderIn (byteAt bs 0) = n ∧ kindIn (byteAt bs 0) = .look ∧
        tagIn (byteAt bs 1) = tag ∧ formOf cw ch bs = some (.look l)) ∧
    (let bs := RequestBody.bytes n tag [] .endFrame;
      fixedLength bs = some 0 ∧ senderIn (byteAt bs 0) = n ∧ kindIn (byteAt bs 0) = .endFrame ∧ tagIn (byteAt bs 1) = tag ∧
        formOf cw ch bs = some .endFrame) ∧
    (let bs := RequestBody.bytes n tag [] .withdraw;
      fixedLength bs = some 0 ∧ senderIn (byteAt bs 0) = n ∧ kindIn (byteAt bs 0) = .withdraw ∧ formOf cw ch bs = some .withdraw)

/-! ## The wall data line -/

/-- BUS_IDLE: from WAITING, or again from IDLE, the bus view is IDLE and the arbiter may begin; in BURST, before the slot, the burst
ends truncated, TRUNCATED is counted, and nothing of the burst has an effect: of a burst complete to its check, whose slot does not
come, what the completion did at once is taken back, and what followed from it, so that with nothing in between the station is as it was,
but for the truncation. How it is taken back, and what stays of it when something came in between, is the model's choice
(notes/assumptions/31.md).
START_PERIOD: a falling edge on an idle line opens a START period, which the arbiter may join; a low sample confirms the START, empties
the receive buffer and sets the edge count to 0; a high sample abandons it, and is a bit error of a station that drove it. -/
def Obligations.BusIdleAndStartPeriodOpenABurst : Prop :=
  (∀ s : State,
    (s.link.view = .waiting ∨ s.link.view = .idle →
      exec .busIdle s = .next (State.settle { s with link := { s.link with view := .idle, idleCount := 4 } })) ∧
    (s.link.view = .burst → s.pub.transmission = none → s.link.atSlot = false ∨ s.link.bitOpen = false →
      let p := State.undoCompletion { s with rx := { s.rx with outcome := none } }
      exec .busIdle s = .next (State.settle
        { p with
          link := { view := .idle, idleCount := 4, bitOpen := false, atSlot := false, refuse := false, drive := .released }
          port := { p.port with counters := { p.port.counters with truncated := saturate p.port.counters.truncated } } }) ∧
      (s.rx.undo = none → p = { s with rx := { s.rx with outcome := none } }) ∧
      (∀ u : Undo, s.rx.undo = some u →
        let flags : BitVec 11 := 0x7FC
        let back (st : LayerState) : LayerState := if st = .preparing then .preparing else .steady
        let wait (st : LayerState) : LayerState := if st = .preparing then .preparing else .flipPending
        let b : State :=
          { s with
            rx := { s.rx with outcome := none, undo := none }
            port := { s.port with
              events := (s.port.events &&& ~~~(u.raised &&& flags)) ||| (u.owed &&& flags)
              counters := { s.port.counters with
                forced := s.port.counters.forced - u.forced, stalls := s.port.counters.stalls - u.stalls
                checkFails := s.port.counters.checkFails - u.checkFails, stale := s.port.counters.stale - u.stale } } }
        (u.blocks = none → p = b) ∧
        (∀ w, u.blocks = some w → p = { b with
          join := w.join
          barrier := { w.barrier with confirmed := s.barrier.confirmed, cadence := s.barrier.cadence }
          pub := match w.lost with
            | none => s.pub
            | some q => { s.pub with queue := q.queue, stagingNext := q.stagingNext, held := q.held
                                     welcomePending := q.welcomePending, spaceWanted := q.spaceWanted }
          frame := match w.request with
            | .same => s.frame
            | .withdrawn =>
              { s.frame with request := none, markDue := false
                             baseState := back s.frame.baseState, overlayState := back s.frame.overlayState }
            | .made q =>
              { s.frame with request := some { q with heldCommit := q.heldCommit && s.intake.committing }
                             baseState := wait s.frame.baseState, overlayState := wait s.frame.overlayState } })))) ∧
  (∀ (s : State) (l : Level), WallWf s → Settled s → CanComplete s l → s.pub.transmission = none →
    ∃ t, exec (.completion l) s = .next t ∧ exec .busIdle t = .next (State.settle
      { s with
        link := { view := .idle, idleCount := 4, bitOpen := false, atSlot := false, refuse := false, drive := .released }
        rx := { (completed s l).rx with outcome := none, undo := none }
        port := { s.port with counters := { s.port.counters with truncated := saturate s.port.counters.truncated } } })) ∧
  (∀ s : State, s.link.view = .idle →
    exec (.startPeriod none) s = .next (State.settle { s with link := { s.link with view := .opening, idleCount := 0 } })) ∧
  (∀ s : State, s.link.view = .opening → exec (.startPeriod none) s = .next s) ∧
  (∀ (s t : State) (l : Level), s.link.view = .idle → exec (.startPeriod none) s = .next t →
    exec (.startPeriod (some l)) s = exec (.startPeriod (some l)) t) ∧
  (∀ s : State, s.link.view = .opening →
    exec (.startPeriod (some .low)) s = .next
      { s with
        link := { s.link with view := .burst, bitOpen := false, atSlot := false, refuse := false }
        rx := { body := [], check := [], shift := 0, bitCount := 0, received := 0, bodyLength := none, running := 0xFFFF,
                outcome := none, undo := none, missed := s.rx.missed, overflow := s.rx.overflow }
        join.edgeCount := 0 }) ∧
  (∀ s : State, s.link.view = .opening → s.pub.transmission = none →
    exec (.startPeriod (some .high)) s = .next { s with link := { s.link with view := .waiting, idleCount := 0 } }) ∧
  (∀ s : State, s.link.view = .opening → s.pub.transmission ≠ none →
    exec (.startPeriod (some .high)) s = .next (State.settle
      (State.stopDriving
        { s with link := { s.link with view := .waiting, idleCount := 0 }
                 port.counters := { s.port.counters with bitErrors := saturate s.port.counters.bitErrors } } .bitError)))

/-- BIT_PERIOD_START: in a burst a transmitter begins to drive the next bit of its burst, most significant bit of each byte first,
and a receiver drives nothing; at the refusal slot a station that decided to refuse, in LISTENING or MEMBER, stretches the slot and
counts REFUSALS_SENT, a transmitter sends a ONE, and every other station drives nothing; in WAITING the idle count restarts. The
symbols drive the line low for the quarters of the bit period that the tables give, the line is low when any station drives it low, and
the bit period and its parts are those of the record's bit rate code, with none while no record stands. -/
def Obligations.BitPeriodStartDrivesTheSymbol : Prop :=
  (∀ q : Fin 4,
    Drive.released.lowIn q = false ∧ Drive.start.lowIn q = true ∧ (Drive.one.lowIn q = true ↔ q = 0) ∧
    (Drive.zero.lowIn q = true ↔ q ≠ 3) ∧ (Drive.stretch.lowIn q = true ↔ q ≠ 3) ∧
    (∀ ds : List Drive, lineIn ds q = .low ↔ ∃ d ∈ ds, d.lowIn q = true) ∧
    (∀ ds : List Drive, (∀ d ∈ ds, d = .released ∨ d = .one ∨ d = .zero ∨ d = .stretch) →
      lineIn ds 3 = .high ∧ (lineIn ds 1 = .low ↔ .zero ∈ ds ∨ .stretch ∈ ds))) ∧
  (∀ b : BitRate, (b.periodNs, b.oneLowPs, b.zeroLowPs, b.samplePs, b.idleNs) = match b with
    | .mbit1 => (1000, 250000, 750000, 500000, 4000)
    | .mbit2 => (500, 125000, 375000, 250000, 2000)
    | .mbit4 => (250, 62500, 187500, 125000, 1000)) ∧
  (∀ s : State, (s.record = none → s.bitPeriodNs = none) ∧
    ∀ r, s.record = some r → s.bitPeriodNs = some (match r.bitRate with
      | .mbit1 => 1000
      | .mbit2 => 500
      | .mbit4 => 250)) ∧
  ∀ s : State,
    (s.link.view = .waiting → exec .bitPeriodStart s = .next { s with link.idleCount := 0 }) ∧
    (s.link.view = .burst → s.link.bitOpen = true → exec .bitPeriodStart s = .next s) ∧
    (s.link.view = .burst → s.link.bitOpen = false → s.link.atSlot = false → s.rx.bitCount < 8 →
      exec .bitPeriodStart s = .next { s with link := { s.link with bitOpen := true, drive :=
        match s.pub.transmission with
          | none => .released
          | some t => if (t.bytes.getD s.rx.received 0).getLsbD (7 - s.rx.bitCount) then .one else .zero } }) ∧
    (s.link.view = .burst → s.link.bitOpen = false → s.link.atSlot = true →
      (s.link.refuse = true → s.join.station = .listening ∨ s.join.station = .member →
        exec .bitPeriodStart s = .next
          { s with link := { s.link with bitOpen := true, drive := .stretch }
                   port.counters := { s.port.counters with refusalsSent := saturate s.port.counters.refusalsSent } }) ∧
      (s.link.refuse = false ∨ s.join.station ≠ .listening ∧ s.join.station ≠ .member →
        exec .bitPeriodStart s = .next { s with link := { s.link with bitOpen := true, drive :=
          if s.pub.transmission = none then .released else .one } }))

/-- BIT_SAMPLE_POINT: a bit of a burst before its last check bit, read back good by a transmitter, is taken into the byte being
gathered, the eighth hands the byte over, and nothing else changes. -/
def Obligations.BitSamplePointTakesOneBit : Prop :=
  ∀ (s : State) (l : Level), s.link.view = .burst → s.link.atSlot = false → s.link.bitOpen = true → s.rx.atLastBit = false →
    s.sending = none ∨ s.sending = some (decide (l = .high)) →
    (s.rx.bitCount < 7 →
      exec (.bitSamplePoint l) s = .next { s with
        link.bitOpen := false
        rx := { s.rx with shift := BitVec.ofNat 8 (2 * s.rx.shift.toNat + if l = .high then 1 else 0)
                          bitCount := s.rx.bitCount + 1 } }) ∧
    (s.rx.bitCount = 7 →
      exec (.bitSamplePoint l) s = .next { s with
        link.bitOpen := false
        rx := Receiver.takeByte { s.rx with shift := 0, bitCount := 0 }
          (BitVec.ofNat 8 (2 * s.rx.shift.toNat + if l = .high then 1 else 0)) })

/-- A burst of at most 1,543 bytes before its check, as many as the receive buffer stores, taken in bit by bit from its confirmed
START by a receiver, each sample point with or without a BIT_PERIOD_START of its own, as `starts` chooses (notes/assumptions/10.md): after all its bits
but the last, the receive buffer holds every byte before the last, the length its fields fix has been taken up, the running check
value is the check of the bytes before the check, the next bit is the last, and nothing outside the Link Unit's bit period and the
Receiver has changed. -/
def Obligations.AWholeBurstIsTakenInBitByBit : Prop :=
  ∀ (s : State) (bs : List Byte) (n : Nat) (starts : List Bool), s.link.view = .burst → s.link.atSlot = false →
    s.pub.transmission = none → s.rx = { Receiver.reset with missed := s.rx.missed, overflow := s.rx.overflow } → bs.length = n + 2 → n ≤ 1541 →
    fixedLength bs = some n → starts.length = 8 * (n + 4) - 1 →
    let burst := withCheck bs
    let t := afterBits s (starts.zip ((List.range (8 * burst.length - 1)).map (sentBit burst)))
    t.rx.body = bs ∧ t.rx.check = (burst.drop (n + 2)).dropLast ∧ t.rx.bodyLength = some n ∧ t.rx.running = crc bs ∧
      t.rx.received = n + 3 ∧ t.rx.bitCount = 7 ∧ t.rx.atLastBit = true ∧
      t = { s with link := { s.link with bitOpen := t.link.bitOpen, drive := t.link.drive }, rx := t.rx }

/-- LOST_ARBITRATION: a contender whose ONE of byte 0 reads ZERO stops driving, its report LOST is acted on, and the bit is taken
in as a ZERO. BIT_ERROR: a transmitter of any burst that reads back another bit than it sent, but for a ONE of byte 0 read as
ZERO, counts BIT_ERRORS, stops driving, its report BIT ERROR is acted on, and the bit is taken in as read; at the last check bit
the burst is then complete, no longer the station's own. -/
def Obligations.LostArbitrationAndBitError : Prop :=
  (∀ (s : State) (t : Transmission), s.link.view = .burst → s.link.atSlot = false → s.link.bitOpen = true → s.rx.received = 0 →
     s.rx.atLastBit = false → s.pub.transmission = some t → sentBit t.bytes s.rx.bitCount = true →
     let x := s.report .lost
     exec .lostArbitration s = .next (State.settle
       { x with link := { x.link with bitOpen := false, drive := .released }, rx := s.rx.takeBit false })) ∧
  (∀ (s : State) (t : Transmission) (b : Bool), s.link.view = .burst → s.link.atSlot = false → s.link.bitOpen = true →
     s.pub.transmission = some t → s.sending = some b → s.rx.received ≠ 0 ∨ b = false →
     let x := State.report
       { s with port.counters := { s.port.counters with bitErrors := saturate s.port.counters.bitErrors } } .bitError
     let y : State := { x with link := { x.link with bitOpen := false, drive := .released }, rx := s.rx.takeBit (!b) }
     y.pub.transmission = none ∧
     (s.rx.atLastBit = false → exec .bitError s = .next y.settle) ∧
     (s.rx.atLastBit = true → exec .bitError s = .next y.complete.settle))

/-! ## Classification at completion -/

/-- A burst whose check fails is counted in CHECK_FAILS, is refused in LISTENING and MEMBER and has no other effect; a malformed
burst of another station, of the station itself, or at a station that discards the finding of a duplicate, is refused in the same
states and has no effect. What a truncation would take back of each is kept with it (the model's own field, notes/assumptions/31.md). -/
def Obligations.CheckFailuresAndMalformedBurstsAreRefused : Prop :=
  ∀ (s : State) (l : Level) (r : Record), CanComplete s l → s.record = some r →
    let u := completed s l
    let refuse := decide (s.join.station = .listening ∨ s.join.station = .member)
    (u.rx.check ≠ highLow u.rx.running.toNat →
      exec (.completion l) s = .next (State.settle
        { u with
          rx := { u.rx with
            outcome := none
            undo := some ⟨0, 0, 0, 0, if s.port.counters.checkFails = 0xFFFF then 0 else 1, 0, none⟩ }
          link.refuse := refuse
          port := { s.port with counters := { s.port.counters with checkFails := saturate s.port.counters.checkFails } } })) ∧
    (u.rx.check = highLow u.rx.running.toNat → formOf r.canvasWidth r.canvasHeight u.rx.body = none →
      NoDuplicate s r (senderIn (byteAt u.rx.body 0)) →
      exec (.completion l) s = .next (State.settle
        { u with
          rx := { u.rx with outcome := none, undo := some ⟨0, 0, 0, 0, 0, 0, none⟩ }
          link.refuse := refuse }))

/-- A burst of another station, of the station itself, or at a station that discards the finding of a duplicate. A well-formed WITHDRAW keeps the removal of its sender and is judged neither current nor
stale. A well-formed END, LOOK, content burst, or WELCOME from which no tag is taken, is judged by its tag against the station's. A
stale one counts STALE and keeps only the heard flag of its sender; every one is stale to a CONFIGURED, JOINING or LISTENING station
whose tag is UNKNOWN. A current one keeps its roster update and its content part: a place reserved, no room, a LOOK, or nothing; only
the one without room, in LISTENING or MEMBER, is refused. What a truncation would take back of each is kept with it (the model's own
field, notes/assumptions/31.md). -/
def Obligations.CurrentAndStaleBursts : Prop :=
  ∀ (s : State) (l : Level) (r : Record) (body : BurstBody), CanComplete s l → s.record = some r →
    let u := completed s l
    let b0 := byteAt u.rx.body 0
    let tag := tagIn (byteAt u.rx.body 1)
    let id : Identity := { sender := senderIn b0, kind := kindIn b0, check := u.rx.running }
    u.rx.check = highLow u.rx.running.toNat → formOf r.canvasWidth r.canvasHeight u.rx.body = some body →
    NoDuplicate s r (senderIn b0) →
    let kept (stale : BitVec 16) : Option Undo := some ⟨0, 0, 0, 0, 0, stale, none⟩
    (body = .withdraw →
      exec (.completion l) s = .next (State.settle
        { u with
          rx := { u.rx with
            undo := kept 0
            outcome := some { identity := id, roster := .withdraw, content := .nothing, answersJoin := false } }
          link.refuse := false })) ∧
    (body = .endFrame ∨ (∃ look, body = .look look) ∨ (∃ c, body = .content c) ∨
        (body = .welcome ∧ (s.join.station ≠ .listening ∨ s.join.admission = some .withTag)) →
      s.barrier.fillTag ≠ none ∨ (s.join.station ≠ .member ∧ s.join.station ≠ .observer) →
      (s.barrier.fillTag ≠ some tag →
        exec (.completion l) s = .next (State.settle
          { u with
            rx := { u.rx with
              undo := kept (if s.port.counters.stale = 0xFFFF then 0 else 1)
              outcome := some { identity := id, roster := .heardOnly, content := .nothing, answersJoin := false } }
            link.refuse := false
            port.counters := { s.port.counters with stale := saturate s.port.counters.stale } })) ∧
      (s.barrier.fillTag = some tag →
        let part : ContentPart := match body with
          | .look look => .look tag look
          | .content c =>
            if c.relevant r then (if s.intake.queue.length < 4 then .reserved ⟨tag, c⟩ else .noRoom) else .nothing
          | _ => .nothing
        exec (.completion l) s = .next (State.settle
          { u with
            rx := { u.rx with
              undo := kept 0
              outcome := some { identity := id, roster := .update, content := part, answersJoin := false } }
            link.refuse := decide (part = .noRoom ∧ (s.join.station = .listening ∨ s.join.station = .member)) })))

/-- A MEMBER or OBSERVER with an UNKNOWN tag adopts, from a well-formed tagged burst, the burst's tag plus the edges taken during it,
and the burst then completes as at a station that held this tag; a LISTENING station whose mark is not
'waiting with tag' takes its tag from a WELCOME in the same way, stops its welcome wait and waits with tag, and the WELCOME then
completes as at such a station. CONFIGURED and JOINING stations take no tag. The burst is another station's, the station's own, or one
at a station that discards the finding of a duplicate; what a truncation would take back, the tag with it, is kept (the model's own
field, notes/assumptions/31.md). -/
def Obligations.TagsAreTakenFromTheWall : Prop :=
  ∀ (s : State) (l : Level) (r : Record) (body : BurstBody), CanComplete s l → s.record = some r →
    let u := completed s l
    let b0 := byteAt u.rx.body 0
    let tag := tagIn (byteAt u.rx.body 1)
    u.rx.check = highLow u.rx.running.toNat → formOf r.canvasWidth r.canvasHeight u.rx.body = some body →
    NoDuplicate s r (senderIn b0) →
    (s.join.station = .member ∨ s.join.station = .observer → s.barrier.fillTag = none →
      body = .welcome ∨ body = .endFrame ∨ (∃ look, body = .look look) ∨ (∃ c, body = .content c) →
      ∃ t x, exec (.completion l) s = .next t ∧
        exec (.completion l) { s with barrier.fillTag := some (BitVec.ofNat 4 (tag.toNat + s.join.edgeCount)) } = .next x ∧
        forgetting t = forgetting x ∧ t.rx.undo.isSome ∧
        (∀ u ∈ t.rx.undo, (t.putBack u).join = s.join ∧ (t.putBack u).barrier.fillTag = none) ∧
        t.barrier.fillTag = some (BitVec.ofNat 4 (tag.toNat + s.join.edgeCount)) ∧ t.join.station = s.join.station ∧
        t.port.counters.stale = (if s.join.edgeCount % 16 = 0 then s.port.counters.stale else saturate s.port.counters.stale)) ∧
    (s.join.station = .listening → s.join.admission ≠ some .withTag → body = .welcome →
      ∃ t x, exec (.completion l) s = .next t ∧
        exec (.completion l)
          { s with barrier.fillTag := some (BitVec.ofNat 4 (tag.toNat + s.join.edgeCount))
                   join := { s.join with welcomeWait := none, admission := some .withTag } } = .next x ∧
        forgetting t = forgetting x ∧ t.rx.undo.isSome ∧
        (∀ u ∈ t.rx.undo, (t.putBack u).join = s.join ∧ (t.putBack u).barrier.fillTag = s.barrier.fillTag) ∧
        t.barrier.fillTag = some (BitVec.ofNat 4 (tag.toNat + s.join.edgeCount)) ∧
        t.join = { s.join with welcomeWait := none, admission := some .withTag }) ∧
    (s.join.station = .configured ∨ s.join.station = .joining → ∃ t, exec (.completion l) s = .next t ∧
      t.barrier.fillTag = s.barrier.fillTag ∧ t.join = s.join)

/-- A burst that passes its check, bears the station's own number and is not the station's own makes a JOINING, LISTENING or MEMBER
station an OBSERVER with reason DUPLICATE at its completion: both lines are released, the queue is emptied without a count, and
DUPLICATE is raised. A known tag is kept, and a JOINING or LISTENING station whose tag is UNKNOWN adopts none from this burst
(notes/assumptions/32.md); a MEMBER whose tag is UNKNOWN adopts from a well-formed tagged burst the burst's tag plus the edges taken
during it, and from any other nothing; the join budget and the edge count are kept (notes/assumptions/26.md). The burst itself is classified on: its
pending outcome is that of its form, judged, when it is tagged, by the tag that the station then holds; a stale one is counted. What a
truncation would put back is kept (the model's own field, notes/assumptions/31.md). -/
def Obligations.ADuplicateMakesAnObserver : Prop :=
  ∀ (s : State) (l : Level) (r : Record), CanComplete s l → s.record = some r → s.pub.transmission = none →
    let u := completed s l
    let b0 := byteAt u.rx.body 0
    let tag := tagIn (byteAt u.rx.body 1)
    let form := formOf r.canvasWidth r.canvasHeight u.rx.body
    let outcome (roster : RosterPart) (content : ContentPart) : Option PendingOutcome :=
      some { identity := { sender := senderIn b0, kind := kindIn b0, check := u.rx.running }, roster := roster, content := content,
             answersJoin := false }
    u.rx.check = highLow u.rx.running.toNat → senderIn b0 = r.station →
    s.join.station = .joining ∨ s.join.station = .listening ∨ s.join.station = .member →
    ∃ t, exec (.completion l) s = .next t ∧
      t.rx.outcome = (match form with
        | none => none
        | some (.join _) => outcome .heardOnly .nothing
        | some .withdraw => outcome .withdraw .nothing
        | some body =>
          if t.barrier.fillTag ≠ some tag then outcome .heardOnly .nothing
          else outcome .update (match body with
            | .look look => .look tag look
            | .content c =>
              if c.relevant r then (if s.intake.queue.length < 4 then .reserved ⟨tag, c⟩ else .noRoom) else .nothing
            | _ => .nothing)) ∧
      t.port.counters.stale = (match form with
        | none | some (.join _) | some .withdraw => s.port.counters.stale
        | some _ => if t.barrier.fillTag = some tag then s.port.counters.stale else saturate s.port.counters.stale) ∧
      t.rx.undo.isSome ∧ (∀ u ∈ t.rx.undo, (t.putBack u).join = s.join ∧ (t.putBack u).pub = s.pub ∧
        (t.putBack u).barrier.fillTag = s.barrier.fillTag ∧ (t.putBack u).barrier.timer = s.barrier.timer) ∧
      t.join = { s.join with station := .observer, joinPending := false, welcomeWait := none, quietLow := false, admission := none,
                             reason := some .duplicate } ∧
      t.link.drive = .released ∧ t.link.refuse = false ∧ t.barrier.driverLow = false ∧ t.barrier.phase = none ∧
      t.barrier.forced = false ∧ t.barrier.releaseTime = 0 ∧ t.barrier.openDamage = s.barrier.openDamage ∧
      t.barrier.cadence = s.barrier.cadence ∧ t.barrier.timerRunning = true ∧
      t.barrier.timer = (if s.join.station = .member then s.barrier.timer else 0) ∧
      (s.barrier.fillTag.isSome ∨ s.join.station ≠ .member → t.barrier.fillTag = s.barrier.fillTag) ∧
      (s.barrier.fillTag = none → s.join.station = .member → t.barrier.fillTag = (match form with
        | none | some (.join _) | some .withdraw => none
        | some _ => some (BitVec.ofNat 4 (tag.toNat + s.join.edgeCount)))) ∧
      t.pub = { s.pub with queue := [], held := false, transmission := none, welcomePending := false, spaceWanted := false } ∧
      t.port.events.getLsbD 9 = true ∧ t.port.counters.dropped = s.port.counters.dropped ∧
      t.roster = s.roster ∧ t.intake.queue = s.intake.queue ∧ t.rx.missed = s.rx.missed

/-- A MEMBER compares the digest of another station's JOIN: one that differs is refused, recorded as the mismatch station and raises
MISMATCH; an equal one is not refused, and its WELCOME is prepared at the slot. A station in another state compares nothing, and no
station compares its own JOIN, with which nothing is done. What a truncation would take back is kept (the model's own field,
notes/assumptions/31.md). -/
def Obligations.AMemberComparesTheDigest : Prop :=
  ∀ (s : State) (l : Level) (r : Record) (digest : BitVec 16), CanComplete s l → s.record = some r →
    let u := completed s l
    let b0 := byteAt u.rx.body 0
    let id : Identity := { sender := senderIn b0, kind := kindIn b0, check := u.rx.running }
    let rx (answers : Bool) : Receiver :=
      { u.rx with
        outcome := some { identity := id, roster := .heardOnly, content := .nothing, answersJoin := answers }
        undo := some ⟨0, 0, 0, 0, 0, 0, none⟩ }
    u.rx.check = highLow u.rx.running.toNat → formOf r.canvasWidth r.canvasHeight u.rx.body = some (.join digest) →
    NoDuplicate s r (senderIn b0) →
    (s.join.station = .member → s.pub.transmission = none → s.digest ≠ some digest →
      ∃ t, exec (.completion l) s = .next t ∧ t.rx.undo.isSome ∧
        (∀ w ∈ t.rx.undo, (t.putBack w).join = s.join ∧ (t.putBack w).port.events.getLsbD 10 = s.port.events.getLsbD 10) ∧
        forgetting t = forgetting (State.settle
          { u with
            rx := rx false
            link.refuse := true
            join.mismatch := some (senderIn b0)
            port := { s.port with events := s.port.events ||| 0x400 } })) ∧
    (s.join.station = .member → s.pub.transmission = none → s.digest = some digest →
      exec (.completion l) s = .next (State.settle { u with rx := rx true, link.refuse := false })) ∧
    (s.join.station ≠ .member ∨ s.pub.transmission ≠ none →
      exec (.completion l) s = .next (State.settle { u with rx := rx false, link.refuse := false }))

/-! ## The slot result -/

/-- SLOT_RESULT: the Receiver's pending outcome is carried out, then the Publisher acts on the report, DELIVERED for a high slot
and REFUSED for a low one (notes/assumptions/28.md), the bus view becomes WAITING, and what that makes due follows. A slot that no
BIT_PERIOD_START began begins here (notes/assumptions/10.md). -/
def Obligations.SlotResultActsOnBothSides : Prop :=
  ∀ (s : State) (l : Level), s.link.view = .burst → s.link.atSlot = true →
    (s.link.bitOpen = true →
      let x := (s.carryOut (decide (l = .high))).report (if l = .high then .delivered else .refused)
      exec (.slotResult l) s = .next (State.settle
        { x with link := { view := .waiting, idleCount := 0, bitOpen := false, atSlot := false, refuse := false,
                           drive := .released }
                 rx := { x.rx with undo := none } })) ∧
    (s.link.bitOpen = false → ∀ t, exec .bitPeriodStart s = .next t → exec (.slotResult l) s = exec (.slotResult l) t)

/-- The pending outcome carried out, whatever the slot result, and cleared: the roster part with the sender's heard flag; then the
content part, in which a reserved place becomes an entry at the tail and leaves the missed list, a burst without room is a
missed-list addition, or in OBSERVER the open-frame damage mark, and a LOOK goes to the stage; then WELCOME pending, cleared by a
well-formed WELCOME and set, at a MEMBER with a known tag, by a delivered JOIN whose digest was equal. Nothing else changes. -/
def Obligations.ThePendingOutcomeIsCarriedOut : Prop :=
  ∀ (s : State) (delivered : Bool),
    (s.rx.outcome = none → s.carryOut delivered = s) ∧
    ∀ o, s.rx.outcome = some o →
      let c : RosterChange := match o.roster with
        | .heardOnly => { roster := s.roster, event := false, overflow := false }
        | .update => rosterOnBurst s.roster o.identity.sender o.identity.kind
        | .withdraw => rosterOnWithdraw s.roster o.identity.sender
      let u : State :=
        { s with
          rx.outcome := none
          roster := if o.roster = .withdraw then c.roster else
            c.roster.map fun e => if e.station = o.identity.sender then { e with heard := true } else e
          pub.welcomePending := decide (o.identity.kind ≠ .welcome) && (s.pub.welcomePending ||
            (o.answersJoin && delivered && decide (s.join.station = .member) && s.barrier.fillTag.isSome))
          port := { s.port with
            events := if c.event then s.port.events ||| 0x040 else s.port.events
            counters := if c.overflow then { s.port.counters with rosterOverflow := saturate s.port.counters.rosterOverflow }
              else s.port.counters } }
      (o.content = .nothing → s.carryOut delivered = u) ∧
      (∀ e, o.content = .reserved e → s.carryOut delivered =
        { u with intake.queue := s.intake.queue ++ [e]
                 rx.missed := s.rx.missed.filter fun x => decide (x ≠ o.identity) }) ∧
      (o.content = .noRoom → s.join.station = .observer → s.carryOut delivered = { u with barrier.openDamage := true }) ∧
      (o.content = .noRoom → s.join.station ≠ .observer → s.carryOut delivered =
        if o.identity ∈ s.rx.missed then u
        else if s.rx.missed.length < 4 then { u with rx.missed := s.rx.missed ++ [o.identity] }
        else { u with rx.overflow := true }) ∧
      (∀ tag look, o.content = .look tag look → s.carryOut delivered = { u with frame.stage := some (tag, look) })

/-- What a burst does to the roster at its slot result: the table of the transitions for an entry of the sender, the addition of a
newcomer, the eviction of the LAGGARD with the highest silence count nearest the front, the newcomer that is not tracked, and the
removal of a WITHDRAW. -/
def Obligations.RosterFollowsTheBursts : Prop :=
  (∀ (roster : List RosterEntry) (n : StationNumber) (k : Kind), (∃ e ∈ roster, e.station = n) → k ≠ .withdraw → k ≠ .join →
    rosterOnBurst roster n k =
      { event := false, overflow := false
        roster := roster.map fun e =>
          if e.station ≠ n ∨ k = .welcome then e
          else if k = .endFrame then { e with state := .ended, overdue := 0, silence := 0 }
          else match e.state with
            | .idle => { e with state := .active }
            | .active => e
            | .ended => e
            | .laggard => { e with silence := 0 } }) ∧
  (∀ (roster : List RosterEntry) (n : StationNumber) (k : Kind), (∀ e ∈ roster, e.station ≠ n) → k ≠ .withdraw → k ≠ .join →
    k ≠ .welcome →
    let e : RosterEntry := { station := n, state := if k = .endFrame then .ended else .active, overdue := 0, silence := 0, heard := true }
    (roster.length < 16 → rosterOnBurst roster n k = { roster := roster ++ [e], event := true, overflow := false }) ∧
    (16 ≤ roster.length → (∀ x ∈ roster, x.state ≠ .laggard) →
      rosterOnBurst roster n k = { roster := roster, event := true, overflow := true }) ∧
    (16 ≤ roster.length → ∀ front v back, roster = front ++ v :: back → (roster.map RosterEntry.station).Nodup →
      v.state = .laggard → (∀ x ∈ front, x.state = .laggard → x.silence < v.silence) →
      (∀ x ∈ back, x.state = .laggard → x.silence ≤ v.silence) →
      rosterOnBurst roster n k = { roster := front ++ back ++ [e], event := true, overflow := false })) ∧
  (∀ (roster : List RosterEntry) (n : StationNumber), (∀ e ∈ roster, e.station ≠ n) →
    rosterOnBurst roster n .welcome = { roster := roster, event := false, overflow := false }) ∧
  (∀ (roster : List RosterEntry) (n : StationNumber), (roster.map RosterEntry.station).Nodup →
    (∀ front e back, roster = front ++ e :: back → e.station = n →
      rosterOnWithdraw roster n = { roster := front ++ back, event := true, overflow := false }) ∧
    ((∀ e ∈ roster, e.station ≠ n) → rosterOnWithdraw roster n = { roster := roster, event := false, overflow := false }))

/-! ## Pictures: mapping, expansion, commits -/

/-- R6: the panel position of a canvas pixel under each of the eight orientations; the mapping takes the pixels of the viewport onto
the positions in use, each to a different one; and every write of a STRIPE or FILL commit goes through it. -/
def Obligations.OrientationMapsTheViewportOntoThePanel : Prop :=
  (∀ (r : Record) (u v : Nat), r.panelPosition u v = match r.orientation with
    | .n => (u, v)
    | .nm => (r.columns - 1 - u, v)
    | .r180 => (r.columns - 1 - u, r.rows - 1 - v)
    | .r180m => (u, r.rows - 1 - v)
    | .r90 => (v, r.rows - 1 - u)
    | .r90m => (v, u)
    | .r270 => (r.columns - 1 - v, u)
    | .r270m => (r.columns - 1 - v, r.rows - 1 - u)) ∧
  (∀ r : Record, r.valid = true →
    (∀ cx cy, (r.originX ≤ cx ∧ cx < r.originX + r.viewWidth ∧ r.originY ≤ cy ∧ cy < r.originY + r.viewHeight) →
      ∃ column row, r.panelPosition (cx - r.originX) (cy - r.originY) = (column, row) ∧ column < r.columns ∧ row < r.rows ∧
        r.addressOf cx cy = some (row * 128 + column)) ∧
    (∀ cx cy, ¬ (r.originX ≤ cx ∧ cx < r.originX + r.viewWidth ∧ r.originY ≤ cy ∧ cy < r.originY + r.viewHeight) →
      r.addressOf cx cy = none) ∧
    (∀ cx cy cx' cy' a, r.addressOf cx cy = some a → r.addressOf cx' cy' = some a → cx = cx' ∧ cy = cy') ∧
    (∀ column row, column < r.columns → row < r.rows → ∃ cx cy, r.addressOf cx cy = some (row * 128 + column)) ∧
    (∀ (q : Rect) (slot : List RawPixel) (c : Nat × RawPixel), c ∈ stripeCells r q slot → ∃ k, ∃ h : k < slot.length,
      c.2 = slot[k] ∧ r.addressOf (q.x + k % q.width) (q.y + k / q.width) = some c.1) ∧
    (∀ (q : Rect) (a : Nat), a ∈ r.intersectionAddresses q → ∃ cx cy, r.addressOf cx cy = some a ∧ q.x ≤ cx ∧ cx < q.x + q.width ∧
      q.y ≤ cy ∧ cy < q.y + q.height))

/-- The intersection test of a rectangle with the viewport: it is non-empty exactly when some canvas pixel lies in both, and the
positions a FILL writes are exactly the panel positions of those pixels, each once, as many as the product of the two extents. -/
def Obligations.IntersectionIsTheSharedPixels : Prop :=
  ∀ (r : Record) (q : Rect), r.valid = true →
    (r.touches q = true ↔ ∃ cx cy a, q.x ≤ cx ∧ cx < q.x + q.width ∧ q.y ≤ cy ∧ cy < q.y + q.height ∧ r.addressOf cx cy = some a) ∧
    (∀ a, a ∈ r.intersectionAddresses q ↔
      ∃ cx cy, q.x ≤ cx ∧ cx < q.x + q.width ∧ q.y ≤ cy ∧ cy < q.y + q.height ∧ r.addressOf cx cy = some a) ∧
    (r.intersectionAddresses q).Nodup ∧
    (r.intersectionAddresses q).length =
      (min (q.x + q.width) (r.originX + r.viewWidth) - max q.x r.originX) *
        (min (q.y + q.height) (r.originY + r.viewHeight) - max q.y r.originY)

/-- R12: RGB565 is expanded component by component, and RGB666, the FILL colour and the PALETTE colours are taken as they are; on
the overlay layer every RGB565 and RGB666 pixel is opaque, black too, and covers the base. -/
def Obligations.Rgb565ExpandsAndOpaqueBlackCovers : Prop :=
  (∀ (palette : Memory Color) (red blue : BitVec 5) (green : BitVec 6),
    expand palette (.rgb565 (red ++ green ++ blue)) =
      ⟨if red.toNat ≤ 15 then BitVec.ofNat 6 (2 * red.toNat) else BitVec.ofNat 6 (2 * red.toNat + 1), green,
       if blue.toNat ≤ 15 then BitVec.ofNat 6 (2 * blue.toNat) else BitVec.ofNat 6 (2 * blue.toNat + 1)⟩) ∧
  (∀ v : BitVec 5, expand5 v = BitVec.ofNat 6 (2 * v.toNat + v.toNat / 16)) ∧ expand5 0 = 0 ∧ expand5 31 = 63 ∧
  (∀ (palette : Memory Color) (c : Color), expand palette (.rgb666 c) = c) ∧
  (∀ (f : FrameStore) (r : Record) (l : Layer) (q : Rect) (c : Color) (a : Nat), a ∈ r.intersectionAddresses q →
    Memory.wf Color.black f.baseFill → Memory.wf OverlayPixel.clear f.overlayFill →
    (l = .base → Memory.read Color.black (f.writeFill r l q c false fun _ => true).baseFill a = c) ∧
    (l = .overlay → Memory.read OverlayPixel.clear (f.writeFill r l q c false fun _ => true).overlayFill a = ⟨c, true⟩)) ∧
  (∀ (palette : Memory Color) (first i : Nat) (slot : List Color) (h : i < slot.length), Memory.wf Color.black palette →
    Memory.read Color.black (writePalette palette first slot) (first + i) = slot[i]) ∧
  (∀ (palette : Memory Color) (v : BitVec 16), expandOverlay palette (.rgb565 v) = ⟨expand palette (.rgb565 v), true⟩) ∧
  (∀ (palette : Memory Color) (c : Color), expandOverlay palette (.rgb666 c) = ⟨c, true⟩) ∧
  (∀ (look : Look) (base c : Color), look.overlayVisible = true → look.invert = false → look.dim = 0 →
    composite look base ⟨c, true⟩ = c)

/-- What the part does at once after a command is, in this order (notes/assumptions/11.md), the flip when it is due, the beginning
of a commit, the barrier's response and the arbiter's choice. A commit begins when the engine is IDLE and the head of the intake
queue is a PALETTE, or a STRIPE or FILL whose layer is STEADY; at no other time, and it changes nothing but the engine state. -/
def Obligations.CommitsBeginWithAnEligibleHead : Prop :=
  ∀ s : State,
    Gives (.next s.settle) (State.arbitrate (State.react (State.beginCommit (State.tryFlip s)))) ∧
    (∀ e rest, s.intake.queue = e :: rest → s.intake.committing = false →
      (∀ layer f q slot, e.content = .stripe layer f q slot → (s.frame.layerState layer = .steady →
          s.beginCommit = { s with intake.committing := true }) ∧ (s.frame.layerState layer ≠ .steady → s.beginCommit = s)) ∧
      (∀ layer q color transparent, e.content = .fill layer q color transparent → (s.frame.layerState layer = .steady →
          s.beginCommit = { s with intake.committing := true }) ∧ (s.frame.layerState layer ≠ .steady → s.beginCommit = s)) ∧
      (∀ first slot, e.content = .palette first slot → s.beginCommit = { s with intake.committing := true })) ∧
    (s.intake.queue = [] ∨ s.intake.committing = true → s.beginCommit = s)

/-- STRIPE_COMMIT writes, at the panel position of each payload pixel inside the viewport, the pixel expanded through the palette
that stands, an IDX8 pixel as the palette entry of its index, 0 being an ordinary index on the base and transparent on the overlay,
and no other position; the entry leaves the queue, the engine is IDLE, the
held commit mark clears, and no other bank and nothing else changes before what that makes due. A mark of damage that the last edge
left is made after that (notes/assumptions/13.md), here and at the other steps that can make a flip. -/
def Obligations.StripeCommitWritesItsPixels : Prop :=
  ∀ (s : State) (r : Record) (tag : Tag) (layer : Layer) (f : Format) (q : Rect) (slot : List RawPixel) (rest : List IntakeEntry),
    s.record = some r → r.valid = true → s.intake.committing = true →
    s.intake.queue = ⟨tag, .stripe layer f q slot⟩ :: rest → slot.length = q.width * q.height →
    Memory.wf Color.black s.frame.baseFill → Memory.wf OverlayPixel.clear s.frame.overlayFill →
    (∀ i : BitVec 8, expand s.intake.palette (.idx8 i) = Memory.read Color.black s.intake.palette i.toNat) ∧
    ∃ fr : FrameStore,
      exec .stripeCommit s = .next (State.makeMarks (State.settle
        { s with intake := { s.intake with queue := rest, committing := false }
                 frame := { fr with request := s.frame.request.map fun x => { x with heldCommit := false } } })) ∧
      (fr = { s.frame with baseA := fr.baseA, baseB := fr.baseB, overlayA := fr.overlayA, overlayB := fr.overlayB }) ∧
      fr.base fr.shownBase = s.frame.base s.frame.shownBase ∧ fr.overlay fr.shownOverlay = s.frame.overlay s.frame.shownOverlay ∧
      (layer = .base → fr.overlayFill = s.frame.overlayFill ∧
        (∀ k a, ∀ h : k < slot.length, r.addressOf (q.x + k % q.width) (q.y + k / q.width) = some a →
          Memory.read Color.black fr.baseFill a = expand s.intake.palette slot[k] ∧
          (slot[k] = .idx8 0 → Memory.read Color.black fr.baseFill a = Memory.read Color.black s.intake.palette 0)) ∧
        (∀ a, (∀ k, k < slot.length → r.addressOf (q.x + k % q.width) (q.y + k / q.width) ≠ some a) →
          Memory.read Color.black fr.baseFill a = Memory.read Color.black s.frame.baseFill a)) ∧
      (layer = .overlay → fr.baseFill = s.frame.baseFill ∧
        (∀ k a, ∀ h : k < slot.length, r.addressOf (q.x + k % q.width) (q.y + k / q.width) = some a →
          Memory.read OverlayPixel.clear fr.overlayFill a =
            if slot[k] = .idx8 0 then ⟨⟨0, 0, 0⟩, false⟩ else ⟨expand s.intake.palette slot[k], true⟩) ∧
        (∀ a, (∀ k, k < slot.length → r.addressOf (q.x + k % q.width) (q.y + k / q.width) ≠ some a) →
          Memory.read OverlayPixel.clear fr.overlayFill a = Memory.read OverlayPixel.clear s.frame.overlayFill a))

/-- R106: FILL_COMMIT writes one value at every panel position of the intersection, in the fill bank of the entry's layer, and no
other position: the colour on the base, transparent or the opaque colour on the overlay. The palette is not read, at most C × R
positions are written, and the commit's time follows from their count. -/
def Obligations.FillCommitWritesItsIntersection : Prop :=
  ∀ (s : State) (r : Record) (tag : Tag) (layer : Layer) (q : Rect) (color : Color) (transparent : Bool)
    (rest : List IntakeEntry), s.record = some r → r.valid = true → s.intake.committing = true →
    s.intake.queue = ⟨tag, .fill layer q color transparent⟩ :: rest →
    Memory.wf Color.black s.frame.baseFill → Memory.wf OverlayPixel.clear s.frame.overlayFill →
    (∃ fr : FrameStore,
      (∀ palette : Memory Color, exec .fillCommit { s with intake.palette := palette } = .next (State.makeMarks (State.settle
        { s with intake := { queue := rest, committing := false, palette := palette }
                 frame := { fr with request := s.frame.request.map fun x => { x with heldCommit := false } } }))) ∧
      (fr = { s.frame with baseA := fr.baseA, baseB := fr.baseB, overlayA := fr.overlayA, overlayB := fr.overlayB }) ∧
      fr.base fr.shownBase = s.frame.base s.frame.shownBase ∧ fr.overlay fr.shownOverlay = s.frame.overlay s.frame.shownOverlay ∧
      (layer = .base → fr.overlayFill = s.frame.overlayFill ∧
        ∀ a, Memory.read Color.black fr.baseFill a =
          if a ∈ r.intersectionAddresses q then color else Memory.read Color.black s.frame.baseFill a) ∧
      (layer = .overlay → fr.baseFill = s.frame.baseFill ∧
        ∀ a, Memory.read OverlayPixel.clear fr.overlayFill a =
          if a ∈ r.intersectionAddresses q then (if transparent then ⟨⟨0, 0, 0⟩, false⟩ else ⟨color, true⟩)
          else Memory.read OverlayPixel.clear s.frame.overlayFill a)) ∧
    (r.intersectionAddresses q).length ≤ r.columns * r.rows ∧
    (Content.fill layer q color transparent).commitTime r = 20 + 2 * (r.intersectionAddresses q).length

/-- PALETTE_COMMIT writes the colours of its slot into the working palette from the first index on, keeps every other entry and
every bank, and removes its entry. -/
def Obligations.PaletteCommitWritesItsRange : Prop :=
  ∀ (s : State) (tag : Tag) (first : Nat) (slot : List Color) (rest : List IntakeEntry), s.intake.committing = true →
    s.intake.queue = ⟨tag, .palette first slot⟩ :: rest → Memory.wf Color.black s.intake.palette →
    ∃ palette : Memory Color,
      exec .paletteCommit s = .next (State.makeMarks (State.settle
        { s with intake := { queue := rest, committing := false, palette := palette }
                 frame.request := s.frame.request.map fun x => { x with heldCommit := false } })) ∧
      ∀ a, Memory.read Color.black palette a =
        if h : first ≤ a ∧ a - first < slot.length then slot[a - first] else Memory.read Color.black s.intake.palette a

/-! ## The picture on the panel -/

/-- LINE_TIME composites and latches the row the scan stands at, from the banks taken for the pass, and moves to the next row;
after row R − 1 the pass ends, a standing flip request takes its pass-end mark, and a new pass begins at row 0. The banks are only
read. A pixel is composited in three steps, component by component: the layer, the invert, and the dim in sixteenths rounded down.
Over the line time the outputs carry the row's pixels in column order with their column and row; then PBLK is active, PLAT is
pulsed once, and PBLK is released. While the scan is stopped PBLK is active and every other output is 0 and inactive. What the
other outputs hold while PBLK is active during a scan, and in UNCONFIGURED, is the model's choice (notes/assumptions/21.md). -/
def Obligations.LineTimeShowsOneCompositedRow : Prop :=
  (∀ (s : State) (r : Record) (sc : Scan), s.record = some r → s.frame.scan = some sc →
     let pixel (column : Nat) : Color :=
       composite s.frame.look (Memory.read Color.black (s.frame.base sc.base) (sc.row * 128 + column))
         (Memory.read OverlayPixel.clear (s.frame.overlay sc.overlay) (sc.row * 128 + column))
     let row : PanelRow := { row := sc.row, pixels := (List.range r.columns).map pixel }
     (sc.row + 1 < r.rows → exec .lineTime s = .next
       { s with frame := { s.frame with panel := some row, scan := some { sc with row := sc.row + 1 } } }) ∧
     (r.rows ≤ sc.row + 1 → exec .lineTime s = .next (State.makeMarks (State.settle
       { s with frame := { s.frame with
           panel := some row
           scan := some { row := 0, base := s.frame.shownBase, overlay := s.frame.shownOverlay }
           request := s.frame.request.map fun q => { q with passEnd := true } } })))) ∧
  (∀ (s : State) (r : Record) (sc : Scan), s.record = some r → s.frame.scan = some sc → 1 ≤ r.columns →
     let shows (column : Nat) (blank latch : Bool) : PanelPins :=
       { color := composite s.frame.look (Memory.read Color.black (s.frame.base sc.base) (sc.row * 128 + column))
           (Memory.read OverlayPixel.clear (s.frame.overlay sc.overlay) (sc.row * 128 + column))
         column := BitVec.ofNat 7 column, row := BitVec.ofNat 7 sc.row, blank := blank, latch := latch }
     s.panelOutputs = ((List.range r.columns).map fun column => shows column false false) ++
       [shows (r.columns - 1) true false, shows (r.columns - 1) true true, shows (r.columns - 1) true false,
        shows (r.columns - 1) false false]) ∧
  (∀ s : State, s.frame.scan = none →
     s.panelOutputs = [{ color := ⟨0, 0, 0⟩, column := 0, row := 0, blank := true, latch := false }]) ∧
  ((∀ (look : Look) (base top : Color) (isOpaque : Bool),
     let shown := if look.overlayVisible = true ∧ isOpaque = true then top else base
     let c := composite look base ⟨top, isOpaque⟩
     let f (x : BitVec 6) : Nat := (if look.invert then 63 - x.toNat else x.toNat) * (16 - look.dim.toNat) / 16
     c.red.toNat = f shown.red ∧ c.green.toNat = f shown.green ∧ c.blue.toNat = f shown.blue) ∧
   composite ⟨true, true, 4⟩ ⟨40, 20, 63⟩ ⟨⟨0, 0, 0⟩, false⟩ = ⟨17, 32, 0⟩ ∧
   composite ⟨true, true, 4⟩ ⟨40, 20, 63⟩ ⟨⟨63, 63, 0⟩, true⟩ = ⟨0, 0, 47⟩ ∧
   composite ⟨true, true, 4⟩ ⟨0, 0, 0⟩ ⟨⟨0, 0, 0⟩, true⟩ = ⟨47, 47, 47⟩)

/-- PREPARATION_PASS_END: the fill bank of the layer holds, at the positions in use, the shown bank's pixels in CARRY, the clear value
in CLEAR, and what it held in KEEP; at the other positions, and in the shown bank, what they held. The layer is FLIP PENDING with a
flip request standing and STEADY without. -/
def Obligations.PreparationPassPreparesTheFillBank : Prop :=
  ∀ (s : State) (r : Record), s.record = some r → Memory.wf Color.black s.frame.baseFill →
    Memory.wf OverlayPixel.clear s.frame.overlayFill → Memory.wf Color.black (s.frame.base s.frame.shownBase) →
    Memory.wf OverlayPixel.clear (s.frame.overlay s.frame.shownOverlay) →
    let after : LayerState := if s.frame.request.isSome then .flipPending else .steady
    let inUse (a : Nat) : Prop := a % 128 < r.columns ∧ a / 128 < r.rows
    (s.frame.baseState = .preparing → ∃ fr : FrameStore,
      exec (.preparationPassEnd .base) s = .next (State.makeMarks (State.settle { s with frame := { fr with baseState := after } })) ∧
      fr = { s.frame with baseA := fr.baseA, baseB := fr.baseB } ∧ fr.base fr.shownBase = s.frame.base s.frame.shownBase ∧
      ∀ a, Memory.read Color.black fr.baseFill a =
        if a % 128 < r.columns ∧ a / 128 < r.rows then
          match r.baseMode with
          | .keep => Memory.read Color.black s.frame.baseFill a
          | .carry => Memory.read Color.black (s.frame.base s.frame.shownBase) a
          | .clear => ⟨0, 0, 0⟩
        else Memory.read Color.black s.frame.baseFill a) ∧
    (s.frame.overlayState = .preparing → ∃ fr : FrameStore,
      exec (.preparationPassEnd .overlay) s = .next
        (State.makeMarks (State.settle { s with frame := { fr with overlayState := after } })) ∧
      fr = { s.frame with overlayA := fr.overlayA, overlayB := fr.overlayB } ∧
      fr.overlay fr.shownOverlay = s.frame.overlay s.frame.shownOverlay ∧
      ∀ a, (inUse a → Memory.read OverlayPixel.clear fr.overlayFill a = match r.overlayMode with
          | .keep => Memory.read OverlayPixel.clear s.frame.overlayFill a
          | .carry => Memory.read OverlayPixel.clear (s.frame.overlay s.frame.shownOverlay) a
          | .clear => ⟨⟨0, 0, 0⟩, false⟩) ∧
        (¬ inUse a → Memory.read OverlayPixel.clear fr.overlayFill a = Memory.read OverlayPixel.clear s.frame.overlayFill a))

/-- The flip: made when a request stands with its pass ended, no held commit and both layers FLIP PENDING, and at no other time; it
exchanges both selectors, settles the LOOK stage by the request's tag, begins a new pass on the banks then shown, clears the request,
begins the preparation passes, and raises SHOWN, and DAMAGE by the damage note. It writes no bank. -/
def Obligations.TheFlipShowsTheClosedFrame : Prop :=
  ∀ (s : State) (r : Record), s.record = some r →
    (∀ q, s.frame.request = some q → q.passEnd = true → q.heldCommit = false → s.frame.baseState = .flipPending →
      s.frame.overlayState = .flipPending →
      s.tryFlip =
        { s with
          frame := { s.frame with
            shownBase := s.frame.shownBase.other, shownOverlay := s.frame.shownOverlay.other
            look := match s.frame.stage with
              | none => s.frame.look
              | some (tag, look) => if q.tag = some tag then look else s.frame.look
            stage := none, request := none
            scan := some { row := 0, base := s.frame.shownBase.other, overlay := s.frame.shownOverlay.other }
            baseState := if r.baseMode = .keep then .steady else .preparing
            overlayState := if r.overlayMode = .keep then .steady else .preparing }
          port := { s.port with events := s.port.events ||| (if q.damage then 0x003 else 0x001) } }) ∧
    ((∀ q ∈ s.frame.request, q.passEnd = false ∨ q.heldCommit = true ∨ s.frame.baseState ≠ .flipPending ∨
      s.frame.overlayState ≠ .flipPending) → s.tryFlip = s)

/-- No step but a hard reset and the end of the start-up clear pass changes a shown bank or a selector, except by a flip: the two
selectors then change together, SHOWN is raised, the request and the LOOK stage are empty, and the banks that were shown keep their
contents as the fill banks they have become. -/
def Obligations.OnlyAFlipChangesThePicture : Prop :=
  ∀ s t : State, step s = .next t → s.pending.head? ≠ some .hardReset → s.pending.head? ≠ some .startUpClearPass →
    (t.frame.shownBase = s.frame.shownBase ∧ t.frame.shownOverlay = s.frame.shownOverlay ∧
      t.frame.base t.frame.shownBase = s.frame.base s.frame.shownBase ∧
      t.frame.overlay t.frame.shownOverlay = s.frame.overlay s.frame.shownOverlay) ∨
    (t.frame.shownBase = s.frame.shownBase.other ∧ t.frame.shownOverlay = s.frame.shownOverlay.other ∧
      t.port.events.getLsbD 0 = true ∧ t.frame.request = none ∧ t.frame.stage = none ∧
      t.frame.base s.frame.shownBase = s.frame.base s.frame.shownBase ∧
      t.frame.overlay s.frame.shownOverlay = s.frame.overlay s.frame.shownOverlay)

/-! ## The barrier -/

/-- A swap edge as every block takes it, in one step (the model's choice, notes/assumptions/13.md), by the station that takes it:
the tag advances if known; the timer restarts at 0 and its value goes to the cadence record with the release time, the forced
flag, the damage and the skip; the phase is FILLING with WLS released for a re-drive delay, or none in OBSERVER; a LISTENING
station becomes MEMBER with JOINED raised; SWAPS and, for a damaged frame, DAMAGED are counted; the roster ages; the missed list,
the pending content and the entries of the closed frame go; a flip request is made, or the standing one kept and damaged; the
transmission is marked, the head's attempts are 0 and HELD ends. In the last row of a pass the mark of damage is left to the step that
ends the pass, or that makes the flip before it: it sets the note of the standing request, or raises DAMAGE when the flip has come
first. -/
def Obligations.TheSwapEdgeInEveryBlock : Prop :=
  ∀ s : State, s.join.station = .member ∨ s.join.station = .observer ∨ s.join.station = .listening →
    let opening : Option Tag := s.barrier.fillTag.map fun tag => tag + 1
    let stays (e : IntakeEntry) : Bool := decide (opening = some e.tag)
    let queue := if s.intake.committing then s.intake.queue.take 1 ++ (s.intake.queue.drop 1).filter stays
      else s.intake.queue.filter stays
    let lost := match s.rx.outcome with
      | none => false
      | some o => match o.content with
        | .reserved _ | .noRoom => true
        | .nothing | .look .. => false
    let damaged := s.barrier.openDamage || decide (s.rx.missed ≠ []) || s.rx.overflow || lost || decide (queue.length < s.intake.queue.length)
    let aged := ageRoster s.roster
    let member := decide (s.join.station = .member)
    let pend (st : LayerState) : LayerState := if st = .preparing then .preparing else .flipPending
    let last := match s.record, s.frame.scan with
      | some r, some sc => decide (r.rows ≤ sc.row + 1)
      | _, _ => false
    let edge : State :=
      { s with
        join := { s.join with
          edgeCount := s.join.edgeCount + 1
          station := if s.join.station = .listening then .member else s.join.station
          admission := if s.join.station = .listening then none else s.join.admission
          welcomeWait := if s.join.station = .listening then none else s.join.welcomeWait }
        rx := { s.rx with
          missed := [], overflow := false
          outcome := s.rx.outcome.map fun o => { o with
            content := if lost then .nothing else o.content
            roster := if o.roster = .update then .heardOnly else o.roster } }
        roster := aged.roster
        intake := { s.intake with queue := queue }
        barrier := { s.barrier with
          phase := if s.join.station = .observer then none else some .filling
          driverLow := false, redrive := decide (s.join.station ≠ .observer), timer := 0, timerRunning := true, fillTag := opening
          forced := false, releaseTime := 0, openDamage := false, faultWatch := false
          cadence :=
            { interval := if s.join.station = .listening then 0 else s.barrier.timer
              ownRelease := if member then s.barrier.releaseTime else 0
              forced := member && s.barrier.forced
              damaged := damaged, skipped := s.frame.request.isSome } }
        pub := { s.pub with
          held := false
          transmission := s.pub.transmission.map fun t => { t with edgeSeen := true }
          queue := match s.pub.queue with
            | [] => []
            | q :: rest => { q with attempts := 0 } :: rest }
        frame := { s.frame with
          baseState := pend s.frame.baseState, overlayState := pend s.frame.overlayState
          markDue := s.frame.markDue || (damaged && last)
          request := some (match s.frame.request with
            | some q => { q with damage := q.damage || (damaged && !last) }
            | none => { tag := s.barrier.fillTag, damage := damaged && !last, heldCommit := s.intake.committing, passEnd := false }) }
        port := { s.port with
          counters := { s.port.counters with
            swaps := saturate s.port.counters.swaps
            damaged := if damaged then saturate s.port.counters.damaged else s.port.counters.damaged }
          events := s.port.events ||| (if aged.event then 0x040 else 0) |||
            (if s.join.station = .listening then 0x080 else 0) } }
    s.damagedAtEdge = damaged ∧ s.swapEdge = edge ∧
    (∀ t : State,
      (t.frame.markDue = false → t.makeMarks = t) ∧
      (∀ q, t.frame.markDue = true → t.frame.request = some q →
        t.makeMarks = { t with frame := { t.frame with markDue := false, request := some { q with damage := true } } }) ∧
      (t.frame.markDue = true → t.frame.request = none →
        t.makeMarks = { t with frame := { t.frame with markDue := false }
                               port := { t.port with events := t.port.events ||| 0x002 } }))

/-- CONFIRMED_RISE by the station's state when it arrives: a swap edge for a MEMBER in READY or STALLED, for an OBSERVER, and for a
LISTENING station that waits for its admission; the electrical fault of a MEMBER in FILLING whose driver is low, counted once until
the fault watch is clear; an observed edge in LISTENING without a mark; no effect elsewhere but on the confirmed level. The edge of
every block is one step (notes/assumptions/13.md). -/
def Obligations.AConfirmedRiseByStationState : Prop :=
  ∀ s : State, s.join.station ≠ .starting → s.barrier.confirmed = some .low →
    let u : State := { s with barrier.confirmed := some .high }
    (s.join.station = .member → s.barrier.phase = some .ready ∨ s.barrier.phase = some .stalled →
      Gives (exec .confirmedRise s) u.swapEdge.settle) ∧
    (s.join.station = .observer → Gives (exec .confirmedRise s) u.swapEdge.settle) ∧
    (s.join.station = .listening → s.join.admission.isSome → Gives (exec .confirmedRise s) u.swapEdge.settle) ∧
    (s.join.station = .listening → s.join.admission = none →
      Gives (exec .confirmedRise s) (State.settle { u with join.edgeCount := s.join.edgeCount + 1 })) ∧
    (s.join.station = .member → s.barrier.phase = some .filling → s.barrier.driverLow = true → s.barrier.faultWatch = false →
      Gives (exec .confirmedRise s) (State.settle
        { u with barrier.faultWatch := true
                 port := { s.port with events := s.port.events ||| 0x008
                                       counters := { s.port.counters with stalls := saturate s.port.counters.stalls } } })) ∧
    (s.join.station = .member → s.barrier.phase = some .filling → s.barrier.driverLow = false ∨ s.barrier.faultWatch = true →
      Gives (exec .confirmedRise s) u.settle) ∧
    (s.join.station = .unconfigured ∨ s.join.station = .configured ∨ s.join.station = .joining →
      Gives (exec .confirmedRise s) u.settle)

/-- The aging of the roster at an edge, entry by entry, with every heard flag cleared after it; ROSTER is raised when an entry became
LAGGARD or was removed. -/
def Obligations.AgingAtTheSwapEdge : Prop :=
  ∀ roster : List RosterEntry,
    let result (e : RosterEntry) : List RosterEntry := match e.state with
      | .ended => [{ e with state := .idle, heard := false }]
      | .idle | .active =>
        if e.overdue ≤ 1 then [{ e with state := .idle, overdue := e.overdue + 1, heard := false }]
        else [{ e with state := .laggard, overdue := 3, silence := 0, heard := false }]
      | .laggard =>
        if e.heard then [{ e with silence := 0, heard := false }]
        else if e.silence ≤ 6 then [{ e with silence := e.silence + 1 }] else []
    (ageRoster roster).roster = roster.flatMap result ∧ (ageRoster roster).overflow = false ∧
    ((ageRoster roster).event = true ↔ ∃ e ∈ roster, (e.state = .idle ∨ e.state = .active) ∧ 2 ≤ e.overdue ∨
      e.state = .laggard ∧ e.heard = false ∧ 7 ≤ e.silence)

/-- CONFIRMED_FALL, FIRST_CONFIRMED_LEVEL, FAULT_WATCH_CLEAR and REDRIVE_DELAY: what each changes, and that it changes nothing else.
A fall also clears the fault watch, since the pin reads low (notes/assumptions/15.md). That REDRIVE_DELAY without a running delay
changes nothing is the model's choice (notes/assumptions/12.md). -/
def Obligations.TheOtherEventsOnTheSyncLine : Prop :=
  ∀ s : State,
    (s.join.station ≠ .starting → s.barrier.confirmed = some .high →
      Gives (exec .confirmedFall s)
        { s with barrier := { s.barrier with confirmed := some .low, faultWatch := false }
                 join.quietLow := if s.join.station = .listening then true else s.join.quietLow }) ∧
    (∀ l, s.join.station ≠ .starting → s.barrier.confirmed = none →
      exec (.firstConfirmedLevel l) s = .next { s with barrier.confirmed := some l }) ∧
    (∀ l, s.join.station = .starting →
      exec (.firstConfirmedLevel l) s = .next s ∧ exec .confirmedFall s = .next s ∧ exec .confirmedRise s = .next s) ∧
    Gives (exec .faultWatchClear s) { s with barrier.faultWatch := false } ∧
    (s.barrier.redrive = true → s.join.station = .member → s.barrier.phase = some .filling →
      Gives (exec .redriveDelay s) { s with barrier := { s.barrier with redrive := false, driverLow := true } }) ∧
    (s.barrier.redrive = true → s.join.station ≠ .member ∨ s.barrier.phase ≠ some .filling →
      Gives (exec .redriveDelay s) { s with barrier.redrive := false }) ∧
    (s.barrier.redrive = false → Gives (exec .redriveDelay s) s)

/-- Readiness, its five conditions; the barrier's response to it; and the three limits of the frame timer: the release of a ready
station, from the timer's value P on; the re-hold below H; the forced flag from H on; the forced release at H, or, when readiness
comes true at the same moment and is taken first, the ordinary release with release time H; the stall at H + P. That FRAME_PERIOD,
HOLD_LIMIT and STALL_LIMIT carry the timer to P, H and H + P at once from any lower value is the model's choice
(notes/assumptions/2.md), and so is that each does nothing past its limit (notes/assumptions/12.md), and that a HOLD_LIMIT which meets
a release of the unit before H, with no unit passed since, comes at its moment (notes/assumptions/33.md). -/
def Obligations.ReleaseReholdForceAndStall : Prop :=
  ∀ (s : State) (r : Record), s.record = some r → r.valid = true → s.join.station = .member → s.barrier.timerRunning = true →
    let P := r.framePeriod
    let H := r.holdMultiple * r.framePeriod
    let force (x : State) : State :=
      { x with barrier.forced := true
               port := { x.port with events := x.port.events ||| 0x004
                                     counters := { x.port.counters with forced := saturate x.port.counters.forced } } }
    let release (x : State) : State :=
      { x with barrier := { x.barrier with phase := some .ready, driverLow := false, faultWatch := false
                                           releaseTime := x.barrier.timer } }
    (s.ready = true ↔ P ≤ s.barrier.timer ∧ (∀ e ∈ s.roster, e.state ≠ .laggard → e.state = .ended) ∧
      (s.intake.queue = [] ∧ s.intake.committing = false) ∧
      (s.frame.baseState = .steady ∧ s.frame.overlayState = .steady ∧ s.frame.request = none) ∧
      (s.engine = .idle ∨ s.engine = .held ∨ s.engine = .blocked)) ∧
    (s.barrier.phase = some .filling → s.ready = true → s.react = release s ∧ P ≤ s.barrier.timer) ∧
    (s.barrier.phase = some .filling → s.ready = false → s.react = s) ∧
    (s.barrier.phase = some .ready → s.ready = false → s.barrier.forced = false → s.barrier.timer < H →
      s.react = { s with barrier := { s.barrier with phase := some .filling, driverLow := true } }) ∧
    (s.barrier.phase = some .ready ∨ s.barrier.phase = some .stalled → s.ready = false → s.barrier.forced = false →
      H ≤ s.barrier.timer → s.react = force s) ∧
    (s.barrier.phase = some .ready ∨ s.barrier.phase = some .stalled → s.ready = true ∨ s.barrier.forced = true → s.react = s) ∧
    (s.barrier.timer < P → Gives (exec .framePeriod s) (State.react { s with barrier.timer := P })) ∧
    (P ≤ s.barrier.timer → Gives (exec .framePeriod s) s) ∧
    (P ≤ s.barrier.timer → s.barrier.timer < H → s.barrier.phase = some .filling →
      Gives (exec .holdLimit s) (force (release { s with barrier.timer := H }))) ∧
    (s.barrier.phase = some .filling → s.barrier.forced = false → s.ready = true → s.barrier.timer + 1 = H →
      Gives (exec .holdLimit s.react) (release { s with barrier.timer := H })) ∧
    (s.barrier.phase = some .ready → s.barrier.forced = false → s.barrier.releaseTime = s.barrier.timer → s.barrier.timer + 1 = H →
      Gives (exec .holdLimit s) { s with barrier := { s.barrier with timer := H, releaseTime := H } }) ∧
    (P ≤ s.barrier.timer → s.barrier.timer < H → s.barrier.phase ≠ some .filling →
      s.barrier.phase ≠ some .ready ∨ s.barrier.forced = true ∨ s.barrier.releaseTime ≠ s.barrier.timer ∨ s.barrier.timer + 1 < H →
      Gives (exec .holdLimit s) { s with barrier.timer := H }) ∧
    (H ≤ s.barrier.timer → Gives (exec .holdLimit s) s) ∧
    (H ≤ s.barrier.timer → s.barrier.timer < H + P → s.barrier.phase = some .ready →
      Gives (exec .stallLimit s)
        { s with barrier := { s.barrier with phase := some .stalled, timer := H + P }
                 port := { s.port with events := s.port.events ||| 0x008
                                       counters := { s.port.counters with stalls := saturate s.port.counters.stalls } } }) ∧
    (H ≤ s.barrier.timer → s.barrier.timer < H + P → s.barrier.phase ≠ some .ready →
      Gives (exec .stallLimit s) { s with barrier.timer := H + P }) ∧
    (H + P ≤ s.barrier.timer → Gives (exec .stallLimit s) s)

/-- WELCOME_WAIT, the end of a running welcome wait: back to JOINING with WLS seen low and budget left; waiting without tag with the
budget spent; founding, with tag 0 and WLS driven low at once, when WLS was never low. Founding counts no edge and raises JOINED.
That the command ends a wait that runs whatever its timer has counted is the model's choice (notes/assumptions/2.md). -/
def Obligations.TheWelcomeWaitEndsInThreeWays : Prop :=
  ∀ s : State, s.join.station = .listening → s.join.welcomeWait.isSome →
    (s.join.quietLow = true → 0 < s.join.budget →
      Gives (exec .welcomeWait s) (State.settle
        { s with join := { s.join with station := .joining, joinPending := true, quietLow := false, welcomeWait := none } })) ∧
    (s.join.quietLow = true → s.join.budget = 0 →
      Gives (exec .welcomeWait s) (State.settle
        { s with join := { s.join with admission := some .withoutTag, welcomeWait := none } })) ∧
    (s.join.quietLow = false →
      Gives (exec .welcomeWait s) (State.settle
        { s with
          join := { s.join with station := .member, admission := none, welcomeWait := none }
          barrier := { s.barrier with
            phase := some .filling, driverLow := true, redrive := false, timer := 0, timerRunning := true, fillTag := some 0
            forced := false, releaseTime := 0, openDamage := false }
          port.events := s.port.events ||| 0x080 }))

/-! ## What every step keeps -/

/-- Every step keeps the six addressed stores in their canonical form. That a store is a list in that form is the model's choice
(notes/assumptions/9.md). -/
def Obligations.StepKeepsTheStoresCanonical : Prop :=
  ∀ s t : State, StoresWf s → step s = .next t → StoresWf t

/-- Every step keeps the capacities and the forms of the lists: the roster, the intake queue with its reservation, the missed list,
the publish queue with its attempts, and the payloads' one run of the staging ring. -/
def Obligations.StepKeepsTheListsInBounds : Prop :=
  (∀ s t : State, RosterWf s → step s = .next t → RosterWf t) ∧
  (∀ s t : State, IntakeBounded s → step s = .next t → IntakeBounded t) ∧
  (∀ s t : State, MissedWf s → step s = .next t → MissedWf t) ∧
  (∀ s t : State, QueueBounded s → RunsWf s → step s = .next t → QueueBounded t ∧ RunsWf t)

/-- Every step keeps what ties the blocks together: the record behind the station state, the join, the tag, the transmission, the
barrier, the layers, the silent lines and the tags of the intake queue. -/
def Obligations.StepKeepsTheStationInOrder : Prop :=
  ∀ s t : State, WallWf s → step s = .next t → WallWf t

/-- Every step leaves nothing undone that the part does at once: no flip due, no eligible entry waiting before an IDLE engine, no
readiness the barrier has not answered, no transmission that could have begun. -/
def Obligations.StepLeavesTheStationSettled : Prop :=
  ∀ s t : State, WallWf s → Settled s → step s = .next t → Settled t

/-- The state after reset meets every one of these: the stores, the lists, the station and the settled state. -/
def Obligations.ResetMeetsEveryInvariant : Prop :=
  StoresWf State.reset ∧ RosterWf State.reset ∧ IntakeBounded State.reset ∧ MissedWf State.reset ∧ QueueBounded State.reset ∧
    RunsWf State.reset ∧ WallWf State.reset ∧ Settled State.reset

/-- While a MEMBER or OBSERVER stays one with its tag known, a step changes the tag only as a swap edge, and then by exactly one
modulo 16, with SWAPS counted; no step but a CONFIRMED_RISE does. (A BUS_IDLE that takes a completion back puts back the tag that the
station would have without it; notes/assumptions/31.md.) A CONFIRMED_RISE from a low confirmed level, in READY, STALLED or OBSERVER,
advances a known tag by one. -/
def Obligations.TheTagAdvancesByOneAtEachEdge : Prop :=
  (∀ (s t : State) (tag tag' : Tag), WallWf s → step s = .next t → s.barrier.fillTag = some tag → t.barrier.fillTag = some tag' →
    s.join.station = .member ∨ s.join.station = .observer → s.rx.undo = none ∨ s.pending.head? ≠ some .busIdle →
    tag' = tag ∨ (tag' = tag + 1 ∧ s.pending.head? = some .confirmedRise ∧
      t.port.counters.swaps = saturate s.port.counters.swaps ∧ t.barrier.timer = 0)) ∧
  (∀ (s t : State) (tag : Tag), step s = .next t → s.pending.head? = some .confirmedRise →
    s.barrier.confirmed = some .low → s.barrier.fillTag = some tag →
    (s.join.station = .member ∧ (s.barrier.phase = some .ready ∨ s.barrier.phase = some .stalled)) ∨ s.join.station = .observer →
    t.barrier.fillTag = some (tag + 1))
end

