-- ==== Sys2Proof/Laws/Memory.lean ====
section
/-! SUPPORT. The addressed stores: every operation keeps the canonical form, and what an address reads after it. -/

namespace Sys2Proof.Machine

variable {α : Type} [DecidableEq α]

/-- The empty store is canonical. -/
theorem Memory.wf_nil (d : α) : Memory.wf d [] := by simp [Memory.wf]

theorem Memory.wf_cons {d : α} {c : Nat × α} {m : Memory α} (h : Memory.wf d (c :: m)) :
    (∀ b ∈ m, c.1 < b.1) ∧ c.2 ≠ d ∧ Memory.wf d m := by
  obtain ⟨hp, hv⟩ := h
  rw [List.pairwise_cons] at hp
  exact ⟨hp.1, hv c (by simp), hp.2, fun b hb => hv b (by simp [hb])⟩

theorem Memory.wf_of_cons {d : α} {c : Nat × α} {m : Memory α} (h1 : ∀ b ∈ m, c.1 < b.1) (h2 : c.2 ≠ d) (h : Memory.wf d m) :
    Memory.wf d (c :: m) := by
  refine ⟨List.pairwise_cons.2 ⟨h1, h.1⟩, ?_⟩
  intro b hb
  rcases List.mem_cons.1 hb with rfl | hb
  · exact h2
  · exact h.2 b hb

omit [DecidableEq α] in
/-- An address below every listed one reads as the default. -/
theorem Memory.read_below (d : α) (m : Memory α) (k : Nat) (h : ∀ b ∈ m, k < b.1) : Memory.read d m k = d := by
  induction m with
  | nil => rfl
  | cons c m ih =>
    have hc := h c (by simp)
    simp only [Memory.read]
    rw [if_neg (by omega)]
    exact ih fun b hb => h b (by simp [hb])

/-- The addresses after a write: those listed before, and the one written. -/
theorem Memory.mem_write {d : α} {m : Memory α} {k : Nat} {v : α} {c : Nat × α} (h : c ∈ Memory.write d m k v) :
    c ∈ m ∨ c = (k, v) := by
  induction m with
  | nil =>
    simp only [Memory.write] at h
    split at h <;> simp_all
  | cons b m ih =>
    simp only [Memory.write] at h
    split at h
    · split at h
      · exact .inl h
      · rcases List.mem_cons.1 h with rfl | h
        · exact .inr rfl
        · exact .inl h
    · split at h
      · split at h
        · exact .inl (by simp [h])
        · rcases List.mem_cons.1 h with rfl | h
          · exact .inr rfl
          · exact .inl (by simp [h])
      · rcases List.mem_cons.1 h with rfl | h
        · exact .inl (by simp)
        · rcases ih h with h | h
          · exact .inl (by simp [h])
          · exact .inr h

/-- A write keeps the canonical form. -/
theorem Memory.wf_write {d : α} {m : Memory α} (k : Nat) (v : α) (h : Memory.wf d m) : Memory.wf d (Memory.write d m k v) := by
  induction m with
  | nil =>
    simp only [Memory.write]
    split
    · exact Memory.wf_nil d
    · exact Memory.wf_of_cons (by simp) (by assumption) (Memory.wf_nil d)
  | cons b m ih =>
    obtain ⟨h1, h2, h3⟩ := Memory.wf_cons h
    simp only [Memory.write]
    split
    · split
      · exact h
      · refine Memory.wf_of_cons ?_ (by assumption) h
        intro c hc
        rcases List.mem_cons.1 hc with rfl | hc
        · assumption
        · have := h1 c hc
          simp only at this ⊢
          omega
    · split
      · split
        · exact h3
        · refine Memory.wf_of_cons ?_ (by assumption) h3
          intro c hc
          have := h1 c hc
          simp only at this ⊢
          omega
      · refine Memory.wf_of_cons ?_ h2 (ih h3)
        intro c hc
        rcases Memory.mem_write hc with hc | rfl
        · exact h1 c hc
        · simp only
          omega

/-- A read after a write: the value written at its address, and what was read before at every other. -/
theorem Memory.read_write {d : α} {m : Memory α} (k : Nat) (v : α) (j : Nat) (h : Memory.wf d m) :
    Memory.read d (Memory.write d m k v) j = if j = k then v else Memory.read d m j := by
  induction m with
  | nil =>
    simp only [Memory.write]
    split
    · simp_all [Memory.read]
    · simp only [Memory.read]
      by_cases hj : j = k
      · simp [hj]
      · rw [if_neg (fun e => hj e.symm), if_neg hj]
  | cons b m ih =>
    obtain ⟨h1, h2, h3⟩ := Memory.wf_cons h
    obtain ⟨i, w⟩ := b
    simp only [Memory.write]
    split
    · rename_i hlt
      have hb : ∀ c ∈ ((i, w) :: m : Memory α), k < c.1 := by
        intro c hc
        rcases List.mem_cons.1 hc with rfl | hc
        · exact hlt
        · have := h1 c hc
          simp only at this
          omega
      split
      · rename_i hv
        by_cases hj : j = k
        · rw [if_pos hj, hj, Memory.read_below d _ k hb, hv]
        · rw [if_neg hj]
      · simp only [Memory.read]
        by_cases hj : j = k
        · simp [hj]
        · rw [if_neg (fun e => hj e.symm), if_neg hj]
    · split
      · rename_i hk
        subst hk
        have hb : ∀ c ∈ m, k < c.1 := by
          intro c hc
          have := h1 c hc
          simpa using this
        split
        · rename_i hv
          by_cases hj : j = k
          · rw [if_pos hj, hj, Memory.read_below d _ k hb, hv]
          · rw [if_neg hj]
            simp only [Memory.read]
            rw [if_neg (fun e => hj e.symm)]
        · simp only [Memory.read]
          by_cases hj : j = k
          · simp [hj]
          · rw [if_neg (fun e => hj e.symm), if_neg hj, if_neg (fun e => hj e.symm)]
      · rename_i hk
        simp only [Memory.read]
        by_cases hj : i = j
        · subst hj
          simp only [if_true]
          rw [if_neg (fun e => hk e.symm)]
        · rw [if_neg hj, if_neg hj]
          exact ih h3

/-- A list of writes keeps the canonical form. -/
theorem Memory.wf_writeAll {d : α} (cells : List (Nat × α)) {m : Memory α} (h : Memory.wf d m) :
    Memory.wf d (m.writeAll d cells) := by
  induction cells generalizing m with
  | nil => exact h
  | cons c cells ih => exact ih (Memory.wf_write c.1 c.2 h)

/-- An address that no cell names reads as before. -/
theorem Memory.read_writeAll_of_not_mem {d : α} (cells : List (Nat × α)) {m : Memory α} (h : Memory.wf d m) (j : Nat)
    (hj : ∀ c ∈ cells, c.1 ≠ j) : Memory.read d (m.writeAll d cells) j = Memory.read d m j := by
  induction cells generalizing m with
  | nil => rfl
  | cons c cells ih =>
    have hc : j ≠ c.1 := fun e => hj c (by simp) e.symm
    have := ih (Memory.wf_write c.1 c.2 h) (fun x hx => hj x (by simp [hx]))
    simp only [Memory.writeAll, List.foldl_cons] at this ⊢
    rw [this, Memory.read_write _ _ _ h, if_neg hc]

/-- A cell whose address no later cell names is what its address reads. -/
theorem Memory.read_writeAll_of_last {d : α} (before after : List (Nat × α)) {m : Memory α} (h : Memory.wf d m) (j : Nat) (v : α)
    (hj : ∀ c ∈ after, c.1 ≠ j) : Memory.read d (m.writeAll d (before ++ (j, v) :: after)) j = v := by
  have : m.writeAll d (before ++ (j, v) :: after) = (((m.writeAll d before).write d j v)).writeAll d after := by
    simp [Memory.writeAll, List.foldl_append]
  rw [this, Memory.read_writeAll_of_not_mem after (Memory.wf_write j v (Memory.wf_writeAll before h)) j hj,
    Memory.read_write _ _ _ (Memory.wf_writeAll before h), if_pos rfl]

/-- Clearing addresses keeps the canonical form. -/
theorem Memory.wf_clearWhere {d : α} (p : Nat → Bool) {m : Memory α} (h : Memory.wf d m) : Memory.wf d (m.clearWhere p) :=
  ⟨h.1.filter _, fun c hc => h.2 c (List.mem_of_mem_filter hc)⟩

/-- A read after clearing: the default at the addresses selected. -/
theorem Memory.read_clearWhere {d : α} (p : Nat → Bool) {m : Memory α} (h : Memory.wf d m) (j : Nat) :
    Memory.read d (m.clearWhere p) j = if p j then d else Memory.read d m j := by
  induction m with
  | nil => simp [Memory.clearWhere, Memory.read]
  | cons b m ih =>
    obtain ⟨h1, h2, h3⟩ := Memory.wf_cons h
    obtain ⟨i, w⟩ := b
    have ih := ih h3
    simp only [Memory.clearWhere] at ih ⊢
    by_cases hp : p i = true
    · simp only [List.filter_cons, hp, Bool.not_true, Bool.false_eq_true, if_false, ih, Memory.read]
      by_cases hj : i = j
      · subst hj
        simp [hp]
      · rw [if_neg hj]
    · simp only [List.filter_cons, hp, Bool.not_false, if_true, Memory.read, ih]
      by_cases hj : i = j
      · subst hj
        simp [hp]
      · simp only [if_neg hj]

/-- Copying addresses keeps the canonical form. -/
theorem Memory.wf_copyWhere {d : α} (p : Nat → Bool) (src : Memory α) {m : Memory α} (h : Memory.wf d m) :
    Memory.wf d (Memory.copyWhere d p src m) :=
  Memory.wf_writeAll _ (Memory.wf_clearWhere p h)

/-- The value at an address of a canonical store that lists it. -/
theorem Memory.read_of_mem {d : α} {m : Memory α} (h : Memory.wf d m) {j : Nat} {v : α} (hm : (j, v) ∈ m) :
    Memory.read d m j = v := by
  induction m with
  | nil => simp at hm
  | cons b m ih =>
    obtain ⟨h1, h2, h3⟩ := Memory.wf_cons h
    simp only [Memory.read]
    rcases List.mem_cons.1 hm with rfl | hm
    · simp
    · have := h1 _ hm
      rw [if_neg (by simp only at this; omega)]
      exact ih h3 hm

omit [DecidableEq α] in
/-- An address that a store does not list reads as the default. -/
theorem Memory.read_of_not_mem {d : α} {m : Memory α} {j : Nat} (hm : ∀ c ∈ m, c.1 ≠ j) : Memory.read d m j = d := by
  induction m with
  | nil => rfl
  | cons b m ih =>
    simp only [Memory.read]
    rw [if_neg (hm b (by simp))]
    exact ih fun c hc => hm c (by simp [hc])

/-- A read after copying: what the source reads at the addresses selected, and what was read before elsewhere. -/
theorem Memory.read_copyWhere {d : α} (p : Nat → Bool) {src m : Memory α} (hs : Memory.wf d src) (h : Memory.wf d m) (j : Nat) :
    Memory.read d (Memory.copyWhere d p src m) j = if p j then Memory.read d src j else Memory.read d m j := by
  have hc := Memory.wf_clearWhere p h
  unfold Memory.copyWhere
  by_cases hex : ∃ v, (j, v) ∈ src.filter fun c => p c.1
  · obtain ⟨v, hv⟩ := hex
    have hp : p j = true := by simpa using (List.mem_filter.1 hv).2
    obtain ⟨before, after, hsplit⟩ := List.append_of_mem hv
    have hpw : List.Pairwise (fun a b => a.1 < b.1) (src.filter fun c => p c.1) := hs.1.filter _
    rw [hsplit] at hpw ⊢
    have hafter : ∀ c ∈ after, c.1 ≠ j := by
      intro c hcm
      have := (List.pairwise_append.1 hpw).2.1
      have := (List.pairwise_cons.1 this).1 c hcm
      simp only at this
      omega
    rw [Memory.read_writeAll_of_last before after hc j v hafter, if_pos hp,
      Memory.read_of_mem hs (List.mem_of_mem_filter hv)]
  · have hn : ∀ c ∈ src.filter fun c => p c.1, c.1 ≠ j := by
      rintro ⟨i, v⟩ hm rfl
      exact hex ⟨v, hm⟩
    rw [Memory.read_writeAll_of_not_mem _ hc j hn, Memory.read_clearWhere p h]
    by_cases hp : p j = true
    · rw [if_pos hp, if_pos hp]
      refine (Memory.read_of_not_mem ?_).symm
      rintro ⟨i, v⟩ hm rfl
      exact hex ⟨v, List.mem_filter.2 ⟨hm, by simpa using hp⟩⟩
    · rw [if_neg hp, if_neg hp]

/-- Replacing the base fill bank by a canonical store keeps both base banks canonical. -/
theorem FrameStore.wf_setBaseFill {f : FrameStore} {m : Memory Color} (hm : Memory.wf Color.black m)
    (ha : Memory.wf Color.black f.baseA) (hb : Memory.wf Color.black f.baseB) :
    Memory.wf Color.black (f.setBaseFill m).baseA ∧ Memory.wf Color.black (f.setBaseFill m).baseB := by
  unfold FrameStore.setBaseFill
  split
  · exact ⟨ha, hm⟩
  · exact ⟨hm, hb⟩

/-- Replacing the overlay fill bank by a canonical store keeps both overlay banks canonical. -/
theorem FrameStore.wf_setOverlayFill {f : FrameStore} {m : Memory OverlayPixel} (hm : Memory.wf OverlayPixel.clear m)
    (ha : Memory.wf OverlayPixel.clear f.overlayA) (hb : Memory.wf OverlayPixel.clear f.overlayB) :
    Memory.wf OverlayPixel.clear (f.setOverlayFill m).overlayA ∧ Memory.wf OverlayPixel.clear (f.setOverlayFill m).overlayB := by
  unfold FrameStore.setOverlayFill
  split
  · exact ⟨ha, hm⟩
  · exact ⟨hm, hb⟩

/-- A preparation pass on the base layer writes the base fill bank alone, at the addresses selected alone: the shown bank's colours in
CARRY, black in CLEAR, and nothing in KEEP (R136, R143). -/
theorem FrameStore.read_prepare_base (f : FrameStore) (mode : CarryMode) (p : Nat → Bool)
    (ha : Memory.wf Color.black f.baseA) (hb : Memory.wf Color.black f.baseB) (j : Nat) :
    Memory.read Color.black (f.prepare mode .base p).baseFill j =
      (if p j then match mode with
        | .carry => Memory.read Color.black (f.base f.shownBase) j
        | .clear => Color.black
        | .keep => Memory.read Color.black f.baseFill j
      else Memory.read Color.black f.baseFill j) ∧
    (f.prepare mode .base p).base f.shownBase = f.base f.shownBase := by
  cases hs : f.shownBase <;> cases mode <;>
    simp [FrameStore.prepare, FrameStore.setBaseFill, FrameStore.baseFill, FrameStore.base, Bank.other, hs,
      Memory.read_copyWhere p ha hb, Memory.read_copyWhere p hb ha, Memory.read_clearWhere p ha, Memory.read_clearWhere p hb]

/-- A preparation pass on the overlay layer writes the overlay fill bank alone, at the addresses selected alone: the shown bank's pixels
with their opaque marks in CARRY, transparent black in CLEAR, and nothing in KEEP (R136, R143). -/
theorem FrameStore.read_prepare_overlay (f : FrameStore) (mode : CarryMode) (p : Nat → Bool)
    (ha : Memory.wf OverlayPixel.clear f.overlayA) (hb : Memory.wf OverlayPixel.clear f.overlayB) (j : Nat) :
    Memory.read OverlayPixel.clear (f.prepare mode .overlay p).overlayFill j =
      (if p j then match mode with
        | .carry => Memory.read OverlayPixel.clear (f.overlay f.shownOverlay) j
        | .clear => OverlayPixel.clear
        | .keep => Memory.read OverlayPixel.clear f.overlayFill j
      else Memory.read OverlayPixel.clear f.overlayFill j) ∧
    (f.prepare mode .overlay p).overlay f.shownOverlay = f.overlay f.shownOverlay := by
  cases hs : f.shownOverlay <;> cases mode <;>
    simp [FrameStore.prepare, FrameStore.setOverlayFill, FrameStore.overlayFill, FrameStore.overlay, Bank.other, hs,
      Memory.read_copyWhere p ha hb, Memory.read_copyWhere p hb ha, Memory.read_clearWhere p ha, Memory.read_clearWhere p hb]

/-- A palette update keeps the working palette canonical. -/
theorem wf_writePalette {palette : Memory Color} (first : Nat) (slot : List Color) (h : Memory.wf Color.black palette) :
    Memory.wf Color.black (writePalette palette first slot) := Memory.wf_writeAll _ h

end Sys2Proof.Machine
end

