-- ==== Sys2Proof/Laws/PerInstr.lean ====
section
/-! SUPPORT. What holds of every command as syntax: the bytes that a well-formed port command clocks in fit the command buffer. -/

namespace Sys2Proof.Laws.CommandBytesFit

open Sys2Proof.Machine

/-- The bytes of a well-formed command are at most the 1,546 of the longest, a PUT STRIPE of 512 pixels of three bytes each with
its command byte and its nine field bytes (R171); an event clocks in none. -/
def Statement (i : Instr) : Prop := i.wellFormed = true → i.portBytes.length ≤ 1546

/-- A PUT STRIPE has at most 1,545 parameter bytes (R171). -/
theorem stripeParams_le (ps : List Byte) : stripeParams ps ≤ 1545 := by
  unfold stripeParams
  split
  · omega
  · split
    · rename_i l f w h hs
      have hw : w * h ≤ 512 := by
        unfold stripeShape at hs
        split at hs
        · simp only at hs
          split at hs
          · rename_i hc
            simp only [Option.some.injEq, Prod.mk.injEq] at hs
            obtain ⟨-, -, rfl, rfl⟩ := hs
            exact hc.2.2.2.2
          · exact absurd hs (by simp)
        · exact absurd hs (by simp)
      have hf : f.bytesPerPixel ≤ 3 := by cases f <;> decide
      have := Nat.mul_le_mul hw hf
      omega
    · omega

/-- A PUT PALETTE has at most 50 parameter bytes (R171). -/
theorem paletteParams_le (ps : List Byte) : paletteParams ps ≤ 50 := by
  unfold paletteParams
  split
  · omega
  · split
    · rename_i h
      simp only [paletteShape, Bool.and_eq_true, decide_eq_true_eq] at h
      omega
    · omega

theorem hardReset : Statement .hardReset := fun _ => of_decide_eq_true rfl
theorem hardResetEnd : Statement .hardResetEnd := fun _ => of_decide_eq_true rfl
theorem startUpClearPass : Statement .startUpClearPass := fun _ => of_decide_eq_true rfl
theorem pselFall : Statement .pselFall := fun _ => of_decide_eq_true rfl
theorem pselRise (bits : Nat) : Statement (.pselRise bits) := fun _ => of_decide_eq_true rfl
theorem readStatus : Statement .readStatus := fun _ => of_decide_eq_true rfl
theorem readRoster : Statement .readRoster := fun _ => of_decide_eq_true rfl
theorem readCounters : Statement .readCounters := fun _ => of_decide_eq_true rfl
theorem clearCounters : Statement .clearCounters := fun _ => of_decide_eq_true rfl
theorem takeEvents : Statement .takeEvents := fun _ => of_decide_eq_true rfl
theorem setEventMask (params : List Byte) : Statement (.setEventMask params) := fun h => by
  have h1 : params.length = 2 := of_decide_eq_true h
  show params.length + 1 ≤ 1546
  omega
theorem configure (params : List Byte) : Statement (.configure params) := fun h => by
  have h1 : params.length = 20 := of_decide_eq_true h
  show params.length + 1 ≤ 1546
  omega
theorem start : Statement .start := fun _ => of_decide_eq_true rfl
theorem reset : Statement .reset := fun _ => of_decide_eq_true rfl
theorem readConfig : Statement .readConfig := fun _ => of_decide_eq_true rfl
theorem putStripe (params : List Byte) : Statement (.putStripe params) := fun h => by
  have h1 : params.length = stripeParams params := of_decide_eq_true h
  have h2 := stripeParams_le params
  show params.length + 1 ≤ 1546
  omega
theorem putFill (params : List Byte) : Statement (.putFill params) := fun h => by
  have h1 : params.length = 13 := of_decide_eq_true h
  show params.length + 1 ≤ 1546
  omega
theorem putPalette (params : List Byte) : Statement (.putPalette params) := fun h => by
  have h1 : params.length = paletteParams params := of_decide_eq_true h
  have h2 := paletteParams_le params
  show params.length + 1 ≤ 1546
  omega
theorem putLook (params : List Byte) : Statement (.putLook params) := fun h => by
  have h1 : params.length = 3 := of_decide_eq_true h
  show params.length + 1 ≤ 1546
  omega
theorem endFrame : Statement .endFrame := fun _ => of_decide_eq_true rfl
theorem withdraw : Statement .withdraw := fun _ => of_decide_eq_true rfl
theorem flushQueue : Statement .flushQueue := fun _ => of_decide_eq_true rfl
theorem unknownCommand (code : Byte) : Statement (.unknownCommand code) := fun _ => of_decide_eq_true rfl
theorem busIdle : Statement .busIdle := fun _ => of_decide_eq_true rfl
theorem startPeriod (level : Option Level) : Statement (.startPeriod level) := fun _ => of_decide_eq_true rfl
theorem lostArbitration : Statement .lostArbitration := fun _ => of_decide_eq_true rfl
theorem bitError : Statement .bitError := fun _ => of_decide_eq_true rfl
theorem completion (level : Level) : Statement (.completion level) := fun _ => of_decide_eq_true rfl
theorem slotResult (level : Level) : Statement (.slotResult level) := fun _ => of_decide_eq_true rfl
theorem stripeCommit : Statement .stripeCommit := fun _ => of_decide_eq_true rfl
theorem fillCommit : Statement .fillCommit := fun _ => of_decide_eq_true rfl
theorem paletteCommit : Statement .paletteCommit := fun _ => of_decide_eq_true rfl
theorem confirmedRise : Statement .confirmedRise := fun _ => of_decide_eq_true rfl
theorem confirmedFall : Statement .confirmedFall := fun _ => of_decide_eq_true rfl
theorem firstConfirmedLevel (level : Level) : Statement (.firstConfirmedLevel level) := fun _ => of_decide_eq_true rfl
theorem faultWatchClear : Statement .faultWatchClear := fun _ => of_decide_eq_true rfl
theorem redriveDelay : Statement .redriveDelay := fun _ => of_decide_eq_true rfl
theorem framePeriod : Statement .framePeriod := fun _ => of_decide_eq_true rfl
theorem holdLimit : Statement .holdLimit := fun _ => of_decide_eq_true rfl
theorem stallLimit : Statement .stallLimit := fun _ => of_decide_eq_true rfl
theorem lineTime : Statement .lineTime := fun _ => of_decide_eq_true rfl
theorem preparationPassEnd (layer : Layer) : Statement (.preparationPassEnd layer) := fun _ => of_decide_eq_true rfl
theorem welcomeWait : Statement .welcomeWait := fun _ => of_decide_eq_true rfl
theorem bitPeriodStart : Statement .bitPeriodStart := fun _ => of_decide_eq_true rfl
theorem bitSamplePoint (level : Level) : Statement (.bitSamplePoint level) := fun _ => of_decide_eq_true rfl

end Sys2Proof.Laws.CommandBytesFit
end

