-- ==== Sys2Proof/Laws/State.lean ====
section
/-! SUPPORT. What each plain update of the state leaves unchanged, field by field, true by `rfl`. -/

namespace Sys2Proof.Machine

/-! ### `State.count` -/

@[simp] theorem State.count_resetHeld (s : State) (k : Counter) : (s.count k).resetHeld = s.resetHeld := rfl
@[simp] theorem State.count_record (s : State) (k : Counter) : (s.count k).record = s.record := rfl
@[simp] theorem State.count_digest (s : State) (k : Counter) : (s.count k).digest = s.digest := rfl
@[simp] theorem State.count_join (s : State) (k : Counter) : (s.count k).join = s.join := rfl
@[simp] theorem State.count_link (s : State) (k : Counter) : (s.count k).link = s.link := rfl
@[simp] theorem State.count_rx (s : State) (k : Counter) : (s.count k).rx = s.rx := rfl
@[simp] theorem State.count_roster (s : State) (k : Counter) : (s.count k).roster = s.roster := rfl
@[simp] theorem State.count_intake (s : State) (k : Counter) : (s.count k).intake = s.intake := rfl
@[simp] theorem State.count_barrier (s : State) (k : Counter) : (s.count k).barrier = s.barrier := rfl
@[simp] theorem State.count_pub (s : State) (k : Counter) : (s.count k).pub = s.pub := rfl
@[simp] theorem State.count_frame (s : State) (k : Counter) : (s.count k).frame = s.frame := rfl
@[simp] theorem State.count_freeIndex (s : State) (k : Counter) : (s.count k).freeIndex = s.freeIndex := rfl
@[simp] theorem State.count_pending (s : State) (k : Counter) : (s.count k).pending = s.pending := rfl

@[simp] theorem State.count_port_events (s : State) (k : Counter) : (s.count k).port.events = s.port.events := rfl
@[simp] theorem State.count_port_mask (s : State) (k : Counter) : (s.count k).port.mask = s.port.mask := rfl
@[simp] theorem State.count_port_phase (s : State) (k : Counter) : (s.count k).port.phase = s.port.phase := rfl
@[simp] theorem State.count_port_psel (s : State) (k : Counter) : (s.count k).port.psel = s.port.psel := rfl
@[simp] theorem State.count_port_command (s : State) (k : Counter) : (s.count k).port.command = s.port.command := rfl
@[simp] theorem State.count_port_response (s : State) (k : Counter) : (s.count k).port.response = s.port.response := rfl
@[simp] theorem State.count_port_counters (s : State) (k : Counter) : (s.count k).port.counters = s.port.counters.bump k := rfl

/-! ### `State.raise` -/

@[simp] theorem State.raise_resetHeld (s : State) (e : Event) : (s.raise e).resetHeld = s.resetHeld := rfl
@[simp] theorem State.raise_record (s : State) (e : Event) : (s.raise e).record = s.record := rfl
@[simp] theorem State.raise_digest (s : State) (e : Event) : (s.raise e).digest = s.digest := rfl
@[simp] theorem State.raise_join (s : State) (e : Event) : (s.raise e).join = s.join := rfl
@[simp] theorem State.raise_link (s : State) (e : Event) : (s.raise e).link = s.link := rfl
@[simp] theorem State.raise_rx (s : State) (e : Event) : (s.raise e).rx = s.rx := rfl
@[simp] theorem State.raise_roster (s : State) (e : Event) : (s.raise e).roster = s.roster := rfl
@[simp] theorem State.raise_intake (s : State) (e : Event) : (s.raise e).intake = s.intake := rfl
@[simp] theorem State.raise_barrier (s : State) (e : Event) : (s.raise e).barrier = s.barrier := rfl
@[simp] theorem State.raise_pub (s : State) (e : Event) : (s.raise e).pub = s.pub := rfl
@[simp] theorem State.raise_frame (s : State) (e : Event) : (s.raise e).frame = s.frame := rfl
@[simp] theorem State.raise_freeIndex (s : State) (e : Event) : (s.raise e).freeIndex = s.freeIndex := rfl
@[simp] theorem State.raise_pending (s : State) (e : Event) : (s.raise e).pending = s.pending := rfl

@[simp] theorem State.raise_port_events (s : State) (e : Event) : (s.raise e).port.events = s.port.events ||| e.bit := rfl
@[simp] theorem State.raise_port_mask (s : State) (e : Event) : (s.raise e).port.mask = s.port.mask := rfl
@[simp] theorem State.raise_port_phase (s : State) (e : Event) : (s.raise e).port.phase = s.port.phase := rfl
@[simp] theorem State.raise_port_psel (s : State) (e : Event) : (s.raise e).port.psel = s.port.psel := rfl
@[simp] theorem State.raise_port_command (s : State) (e : Event) : (s.raise e).port.command = s.port.command := rfl
@[simp] theorem State.raise_port_response (s : State) (e : Event) : (s.raise e).port.response = s.port.response := rfl
@[simp] theorem State.raise_port_counters (s : State) (e : Event) : (s.raise e).port.counters = s.port.counters := rfl

/-! ### `State.finishCommit` -/

@[simp] theorem State.finishCommit_resetHeld (s : State) : (s.finishCommit).resetHeld = s.resetHeld := rfl
@[simp] theorem State.finishCommit_record (s : State) : (s.finishCommit).record = s.record := rfl
@[simp] theorem State.finishCommit_digest (s : State) : (s.finishCommit).digest = s.digest := rfl
@[simp] theorem State.finishCommit_join (s : State) : (s.finishCommit).join = s.join := rfl
@[simp] theorem State.finishCommit_link (s : State) : (s.finishCommit).link = s.link := rfl
@[simp] theorem State.finishCommit_rx (s : State) : (s.finishCommit).rx = s.rx := rfl
@[simp] theorem State.finishCommit_roster (s : State) : (s.finishCommit).roster = s.roster := rfl
@[simp] theorem State.finishCommit_barrier (s : State) : (s.finishCommit).barrier = s.barrier := rfl
@[simp] theorem State.finishCommit_pub (s : State) : (s.finishCommit).pub = s.pub := rfl
@[simp] theorem State.finishCommit_port (s : State) : (s.finishCommit).port = s.port := rfl
@[simp] theorem State.finishCommit_freeIndex (s : State) : (s.finishCommit).freeIndex = s.freeIndex := rfl
@[simp] theorem State.finishCommit_pending (s : State) : (s.finishCommit).pending = s.pending := rfl

@[simp] theorem State.finishCommit_intake_queue (s : State) : (s.finishCommit).intake.queue = s.intake.queue.tail := rfl
@[simp] theorem State.finishCommit_intake_committing (s : State) : (s.finishCommit).intake.committing = false := rfl
@[simp] theorem State.finishCommit_intake_palette (s : State) : (s.finishCommit).intake.palette = s.intake.palette := rfl
@[simp] theorem State.finishCommit_frame (s : State) : (s.finishCommit).frame = s.frame.commitEnded := rfl

/-! ### `State.cut` -/

@[simp] theorem State.cut_resetHeld (s : State) : (s.cut).resetHeld = s.resetHeld := rfl
@[simp] theorem State.cut_record (s : State) : (s.cut).record = s.record := rfl
@[simp] theorem State.cut_digest (s : State) : (s.cut).digest = s.digest := rfl
@[simp] theorem State.cut_join (s : State) : (s.cut).join = s.join := rfl
@[simp] theorem State.cut_rx (s : State) : (s.cut).rx = s.rx := rfl
@[simp] theorem State.cut_roster (s : State) : (s.cut).roster = s.roster := rfl
@[simp] theorem State.cut_intake (s : State) : (s.cut).intake = s.intake := rfl
@[simp] theorem State.cut_barrier (s : State) : (s.cut).barrier = s.barrier := rfl
@[simp] theorem State.cut_frame (s : State) : (s.cut).frame = s.frame := rfl
@[simp] theorem State.cut_port (s : State) : (s.cut).port = s.port := rfl
@[simp] theorem State.cut_freeIndex (s : State) : (s.cut).freeIndex = s.freeIndex := rfl
@[simp] theorem State.cut_pending (s : State) : (s.cut).pending = s.pending := rfl

@[simp] theorem State.cut_link_drive (s : State) : (s.cut).link.drive = .released := rfl
@[simp] theorem State.cut_link_refuse (s : State) : (s.cut).link.refuse = false := rfl
@[simp] theorem State.cut_link_view (s : State) : (s.cut).link.view = s.link.view := rfl
@[simp] theorem State.cut_pub_transmission (s : State) : (s.cut).pub.transmission = none := rfl
@[simp] theorem State.cut_pub_queue (s : State) : (s.cut).pub.queue = s.pub.queue := rfl

/-! ### `State.enterListening` -/

@[simp] theorem State.enterListening_resetHeld (s : State) : (s.enterListening).resetHeld = s.resetHeld := rfl
@[simp] theorem State.enterListening_record (s : State) : (s.enterListening).record = s.record := rfl
@[simp] theorem State.enterListening_digest (s : State) : (s.enterListening).digest = s.digest := rfl
@[simp] theorem State.enterListening_link (s : State) : (s.enterListening).link = s.link := rfl
@[simp] theorem State.enterListening_rx (s : State) : (s.enterListening).rx = s.rx := rfl
@[simp] theorem State.enterListening_roster (s : State) : (s.enterListening).roster = s.roster := rfl
@[simp] theorem State.enterListening_intake (s : State) : (s.enterListening).intake = s.intake := rfl
@[simp] theorem State.enterListening_barrier (s : State) : (s.enterListening).barrier = s.barrier := rfl
@[simp] theorem State.enterListening_pub (s : State) : (s.enterListening).pub = s.pub := rfl
@[simp] theorem State.enterListening_frame (s : State) : (s.enterListening).frame = s.frame := rfl
@[simp] theorem State.enterListening_port (s : State) : (s.enterListening).port = s.port := rfl
@[simp] theorem State.enterListening_freeIndex (s : State) : (s.enterListening).freeIndex = s.freeIndex := rfl
@[simp] theorem State.enterListening_pending (s : State) : (s.enterListening).pending = s.pending := rfl

@[simp] theorem State.enterListening_join_station (s : State) : (s.enterListening).join.station = .listening := rfl
@[simp] theorem State.enterListening_join_welcomeWait (s : State) : (s.enterListening).join.welcomeWait = some 0 := rfl
@[simp] theorem State.enterListening_join_budget (s : State) : (s.enterListening).join.budget = s.join.budget := rfl

/-! ### `State.found` -/

@[simp] theorem State.found_resetHeld (s : State) : (s.found).resetHeld = s.resetHeld := rfl
@[simp] theorem State.found_record (s : State) : (s.found).record = s.record := rfl
@[simp] theorem State.found_digest (s : State) : (s.found).digest = s.digest := rfl
@[simp] theorem State.found_link (s : State) : (s.found).link = s.link := rfl
@[simp] theorem State.found_rx (s : State) : (s.found).rx = s.rx := rfl
@[simp] theorem State.found_roster (s : State) : (s.found).roster = s.roster := rfl
@[simp] theorem State.found_intake (s : State) : (s.found).intake = s.intake := rfl
@[simp] theorem State.found_pub (s : State) : (s.found).pub = s.pub := rfl
@[simp] theorem State.found_frame (s : State) : (s.found).frame = s.frame := rfl
@[simp] theorem State.found_freeIndex (s : State) : (s.found).freeIndex = s.freeIndex := rfl
@[simp] theorem State.found_pending (s : State) : (s.found).pending = s.pending := rfl

@[simp] theorem State.found_join_station (s : State) : (s.found).join.station = .member := rfl
@[simp] theorem State.found_barrier_phase (s : State) : (s.found).barrier.phase = some .filling := rfl
@[simp] theorem State.found_barrier_driverLow (s : State) : (s.found).barrier.driverLow = true := rfl
@[simp] theorem State.found_barrier_fillTag (s : State) : (s.found).barrier.fillTag = some 0 := rfl
@[simp] theorem State.found_barrier_timer (s : State) : (s.found).barrier.timer = 0 := rfl

/-! ### `State.releaseReady` -/

@[simp] theorem State.releaseReady_resetHeld (s : State) : (s.releaseReady).resetHeld = s.resetHeld := rfl
@[simp] theorem State.releaseReady_record (s : State) : (s.releaseReady).record = s.record := rfl
@[simp] theorem State.releaseReady_digest (s : State) : (s.releaseReady).digest = s.digest := rfl
@[simp] theorem State.releaseReady_join (s : State) : (s.releaseReady).join = s.join := rfl
@[simp] theorem State.releaseReady_link (s : State) : (s.releaseReady).link = s.link := rfl
@[simp] theorem State.releaseReady_rx (s : State) : (s.releaseReady).rx = s.rx := rfl
@[simp] theorem State.releaseReady_roster (s : State) : (s.releaseReady).roster = s.roster := rfl
@[simp] theorem State.releaseReady_intake (s : State) : (s.releaseReady).intake = s.intake := rfl
@[simp] theorem State.releaseReady_pub (s : State) : (s.releaseReady).pub = s.pub := rfl
@[simp] theorem State.releaseReady_frame (s : State) : (s.releaseReady).frame = s.frame := rfl
@[simp] theorem State.releaseReady_port (s : State) : (s.releaseReady).port = s.port := rfl
@[simp] theorem State.releaseReady_freeIndex (s : State) : (s.releaseReady).freeIndex = s.freeIndex := rfl
@[simp] theorem State.releaseReady_pending (s : State) : (s.releaseReady).pending = s.pending := rfl

@[simp] theorem State.releaseReady_barrier_phase (s : State) : (s.releaseReady).barrier.phase = some .ready := rfl
@[simp] theorem State.releaseReady_barrier_driverLow (s : State) : (s.releaseReady).barrier.driverLow = false := rfl
@[simp] theorem State.releaseReady_barrier_timer (s : State) : (s.releaseReady).barrier.timer = s.barrier.timer := rfl
@[simp] theorem State.releaseReady_barrier_fillTag (s : State) : (s.releaseReady).barrier.fillTag = s.barrier.fillTag := rfl
@[simp] theorem State.releaseReady_barrier_forced (s : State) : (s.releaseReady).barrier.forced = s.barrier.forced := rfl

/-! ### `State.releaseForced` -/

@[simp] theorem State.releaseForced_resetHeld (s : State) : (s.releaseForced).resetHeld = s.resetHeld := rfl
@[simp] theorem State.releaseForced_record (s : State) : (s.releaseForced).record = s.record := rfl
@[simp] theorem State.releaseForced_digest (s : State) : (s.releaseForced).digest = s.digest := rfl
@[simp] theorem State.releaseForced_join (s : State) : (s.releaseForced).join = s.join := rfl
@[simp] theorem State.releaseForced_link (s : State) : (s.releaseForced).link = s.link := rfl
@[simp] theorem State.releaseForced_rx (s : State) : (s.releaseForced).rx = s.rx := rfl
@[simp] theorem State.releaseForced_roster (s : State) : (s.releaseForced).roster = s.roster := rfl
@[simp] theorem State.releaseForced_intake (s : State) : (s.releaseForced).intake = s.intake := rfl
@[simp] theorem State.releaseForced_pub (s : State) : (s.releaseForced).pub = s.pub := rfl
@[simp] theorem State.releaseForced_frame (s : State) : (s.releaseForced).frame = s.frame := rfl
@[simp] theorem State.releaseForced_freeIndex (s : State) : (s.releaseForced).freeIndex = s.freeIndex := rfl
@[simp] theorem State.releaseForced_pending (s : State) : (s.releaseForced).pending = s.pending := rfl

@[simp] theorem State.releaseForced_barrier_phase (s : State) : (s.releaseForced).barrier.phase = some .ready := rfl
@[simp] theorem State.releaseForced_barrier_driverLow (s : State) : (s.releaseForced).barrier.driverLow = false := rfl
@[simp] theorem State.releaseForced_barrier_timer (s : State) : (s.releaseForced).barrier.timer = s.barrier.timer := rfl
@[simp] theorem State.releaseForced_barrier_fillTag (s : State) : (s.releaseForced).barrier.fillTag = s.barrier.fillTag := rfl
@[simp] theorem State.releaseForced_barrier_forced (s : State) : (s.releaseForced).barrier.forced = true := rfl

/-! ### `State.rehold` -/

@[simp] theorem State.rehold_resetHeld (s : State) : (s.rehold).resetHeld = s.resetHeld := rfl
@[simp] theorem State.rehold_record (s : State) : (s.rehold).record = s.record := rfl
@[simp] theorem State.rehold_digest (s : State) : (s.rehold).digest = s.digest := rfl
@[simp] theorem State.rehold_join (s : State) : (s.rehold).join = s.join := rfl
@[simp] theorem State.rehold_link (s : State) : (s.rehold).link = s.link := rfl
@[simp] theorem State.rehold_rx (s : State) : (s.rehold).rx = s.rx := rfl
@[simp] theorem State.rehold_roster (s : State) : (s.rehold).roster = s.roster := rfl
@[simp] theorem State.rehold_intake (s : State) : (s.rehold).intake = s.intake := rfl
@[simp] theorem State.rehold_pub (s : State) : (s.rehold).pub = s.pub := rfl
@[simp] theorem State.rehold_frame (s : State) : (s.rehold).frame = s.frame := rfl
@[simp] theorem State.rehold_port (s : State) : (s.rehold).port = s.port := rfl
@[simp] theorem State.rehold_freeIndex (s : State) : (s.rehold).freeIndex = s.freeIndex := rfl
@[simp] theorem State.rehold_pending (s : State) : (s.rehold).pending = s.pending := rfl

@[simp] theorem State.rehold_barrier_phase (s : State) : (s.rehold).barrier.phase = some .filling := rfl
@[simp] theorem State.rehold_barrier_driverLow (s : State) : (s.rehold).barrier.driverLow = true := rfl
@[simp] theorem State.rehold_barrier_timer (s : State) : (s.rehold).barrier.timer = s.barrier.timer := rfl
@[simp] theorem State.rehold_barrier_fillTag (s : State) : (s.rehold).barrier.fillTag = s.barrier.fillTag := rfl
@[simp] theorem State.rehold_barrier_forced (s : State) : (s.rehold).barrier.forced = s.barrier.forced := rfl

/-! ### `State.setForced` -/

@[simp] theorem State.setForced_resetHeld (s : State) : (s.setForced).resetHeld = s.resetHeld := rfl
@[simp] theorem State.setForced_record (s : State) : (s.setForced).record = s.record := rfl
@[simp] theorem State.setForced_digest (s : State) : (s.setForced).digest = s.digest := rfl
@[simp] theorem State.setForced_join (s : State) : (s.setForced).join = s.join := rfl
@[simp] theorem State.setForced_link (s : State) : (s.setForced).link = s.link := rfl
@[simp] theorem State.setForced_rx (s : State) : (s.setForced).rx = s.rx := rfl
@[simp] theorem State.setForced_roster (s : State) : (s.setForced).roster = s.roster := rfl
@[simp] theorem State.setForced_intake (s : State) : (s.setForced).intake = s.intake := rfl
@[simp] theorem State.setForced_pub (s : State) : (s.setForced).pub = s.pub := rfl
@[simp] theorem State.setForced_frame (s : State) : (s.setForced).frame = s.frame := rfl
@[simp] theorem State.setForced_freeIndex (s : State) : (s.setForced).freeIndex = s.freeIndex := rfl
@[simp] theorem State.setForced_pending (s : State) : (s.setForced).pending = s.pending := rfl

@[simp] theorem State.setForced_barrier_phase (s : State) : (s.setForced).barrier.phase = s.barrier.phase := rfl
@[simp] theorem State.setForced_barrier_driverLow (s : State) : (s.setForced).barrier.driverLow = s.barrier.driverLow := rfl
@[simp] theorem State.setForced_barrier_timer (s : State) : (s.setForced).barrier.timer = s.barrier.timer := rfl
@[simp] theorem State.setForced_barrier_fillTag (s : State) : (s.setForced).barrier.fillTag = s.barrier.fillTag := rfl
@[simp] theorem State.setForced_barrier_forced (s : State) : (s.setForced).barrier.forced = true := rfl

/-! ### `State.holdOutcome` -/

@[simp] theorem State.holdOutcome_resetHeld (s : State) (o : Option PendingOutcome) (b : Bool) : (s.holdOutcome o b).resetHeld = s.resetHeld := rfl
@[simp] theorem State.holdOutcome_record (s : State) (o : Option PendingOutcome) (b : Bool) : (s.holdOutcome o b).record = s.record := rfl
@[simp] theorem State.holdOutcome_digest (s : State) (o : Option PendingOutcome) (b : Bool) : (s.holdOutcome o b).digest = s.digest := rfl
@[simp] theorem State.holdOutcome_join (s : State) (o : Option PendingOutcome) (b : Bool) : (s.holdOutcome o b).join = s.join := rfl
@[simp] theorem State.holdOutcome_roster (s : State) (o : Option PendingOutcome) (b : Bool) : (s.holdOutcome o b).roster = s.roster := rfl
@[simp] theorem State.holdOutcome_intake (s : State) (o : Option PendingOutcome) (b : Bool) : (s.holdOutcome o b).intake = s.intake := rfl
@[simp] theorem State.holdOutcome_barrier (s : State) (o : Option PendingOutcome) (b : Bool) : (s.holdOutcome o b).barrier = s.barrier := rfl
@[simp] theorem State.holdOutcome_pub (s : State) (o : Option PendingOutcome) (b : Bool) : (s.holdOutcome o b).pub = s.pub := rfl
@[simp] theorem State.holdOutcome_frame (s : State) (o : Option PendingOutcome) (b : Bool) : (s.holdOutcome o b).frame = s.frame := rfl
@[simp] theorem State.holdOutcome_port (s : State) (o : Option PendingOutcome) (b : Bool) : (s.holdOutcome o b).port = s.port := rfl
@[simp] theorem State.holdOutcome_freeIndex (s : State) (o : Option PendingOutcome) (b : Bool) : (s.holdOutcome o b).freeIndex = s.freeIndex := rfl
@[simp] theorem State.holdOutcome_pending (s : State) (o : Option PendingOutcome) (b : Bool) : (s.holdOutcome o b).pending = s.pending := rfl

@[simp] theorem State.holdOutcome_rx_outcome (s : State) (o : Option PendingOutcome) (b : Bool) : (s.holdOutcome o b).rx.outcome = o := rfl
@[simp] theorem State.holdOutcome_rx_missed (s : State) (o : Option PendingOutcome) (b : Bool) : (s.holdOutcome o b).rx.missed = s.rx.missed := rfl
@[simp] theorem State.holdOutcome_link_refuse (s : State) (o : Option PendingOutcome) (b : Bool) : (s.holdOutcome o b).link.refuse = b := rfl
@[simp] theorem State.holdOutcome_link_view (s : State) (o : Option PendingOutcome) (b : Bool) : (s.holdOutcome o b).link.view = s.link.view := rfl
@[simp] theorem State.holdOutcome_link_drive (s : State) (o : Option PendingOutcome) (b : Bool) : (s.holdOutcome o b).link.drive = s.link.drive := rfl

/-! ### `State.accept` -/

@[simp] theorem State.accept_resetHeld (s : State) (id : Identity) (e : IntakeEntry) : (s.accept id e).resetHeld = s.resetHeld := rfl
@[simp] theorem State.accept_record (s : State) (id : Identity) (e : IntakeEntry) : (s.accept id e).record = s.record := rfl
@[simp] theorem State.accept_digest (s : State) (id : Identity) (e : IntakeEntry) : (s.accept id e).digest = s.digest := rfl
@[simp] theorem State.accept_join (s : State) (id : Identity) (e : IntakeEntry) : (s.accept id e).join = s.join := rfl
@[simp] theorem State.accept_link (s : State) (id : Identity) (e : IntakeEntry) : (s.accept id e).link = s.link := rfl
@[simp] theorem State.accept_roster (s : State) (id : Identity) (e : IntakeEntry) : (s.accept id e).roster = s.roster := rfl
@[simp] theorem State.accept_barrier (s : State) (id : Identity) (e : IntakeEntry) : (s.accept id e).barrier = s.barrier := rfl
@[simp] theorem State.accept_pub (s : State) (id : Identity) (e : IntakeEntry) : (s.accept id e).pub = s.pub := rfl
@[simp] theorem State.accept_frame (s : State) (id : Identity) (e : IntakeEntry) : (s.accept id e).frame = s.frame := rfl
@[simp] theorem State.accept_port (s : State) (id : Identity) (e : IntakeEntry) : (s.accept id e).port = s.port := rfl
@[simp] theorem State.accept_freeIndex (s : State) (id : Identity) (e : IntakeEntry) : (s.accept id e).freeIndex = s.freeIndex := rfl
@[simp] theorem State.accept_pending (s : State) (id : Identity) (e : IntakeEntry) : (s.accept id e).pending = s.pending := rfl

@[simp] theorem State.accept_intake_queue (s : State) (id : Identity) (e : IntakeEntry) : (s.accept id e).intake.queue = s.intake.queue ++ [e] := rfl
@[simp] theorem State.accept_rx_missed (s : State) (id : Identity) (e : IntakeEntry) : (s.accept id e).rx.missed = s.rx.missed.filter fun x => decide (x ≠ id) := rfl

end Sys2Proof.Machine
end

