-- ==== Sys2Proof/Laws/Settle.lean ====
section
/-! SUPPORT. What the shared operations can do, once for each: the flip, the beginning of a commit, the barrier's response, the
arbiter's choice, and the settling of all four. -/

namespace Sys2Proof.Machine

/-- Raising an event under a condition touches the port alone. -/
theorem State.raiseIf_cases (s : State) (b : Bool) (e : Event) : s.raiseIf b e = s ∨ s.raiseIf b e = s.raise e := by
  cases b
  · exact .inl rfl
  · exact .inr rfl

/-- Counting under a condition touches the port alone. -/
theorem State.countIf_cases (s : State) (b : Bool) (k : Counter) : s.countIf b k = s ∨ s.countIf b k = s.count k := by
  cases b
  · exact .inl rfl
  · exact .inr rfl

/-- The flip is made when it is due and a record stands; otherwise nothing happens. -/
theorem State.tryFlip_cases (s : State) :
    (s.tryFlip = s ∧ (s.record.isSome → s.frame.flipDue = false)) ∨
    ∃ r q, s.record = some r ∧ s.frame.request = some q ∧ s.frame.flipDue = true ∧
      s.tryFlip = ({ s with frame := s.frame.flip r q }.raise .shown).raiseIf q.damage .damage := by
  unfold State.tryFlip
  split
  · rename_i r q hr hq
    split
    · exact .inr ⟨r, q, hr, hq, by assumption, rfl⟩
    · exact .inl ⟨rfl, fun _ => by simpa using ‹¬ s.frame.flipDue = true›⟩
  · rename_i h
    refine .inl ⟨rfl, fun hr => ?_⟩
    obtain ⟨r, hr⟩ := Option.isSome_iff_exists.1 hr
    cases hq : s.frame.request with
    | none => simp [FrameStore.flipDue, hq]
    | some q => exact absurd hq (h r q hr)

/-- A flip is due only with a standing request, both layers FLIP PENDING, the pass ended and no held commit (R139). -/
theorem FrameStore.flipDue_iff (f : FrameStore) :
    f.flipDue = true ↔ ∃ q, f.request = some q ∧ q.passEnd = true ∧ q.heldCommit = false ∧ f.baseState = .flipPending ∧
      f.overlayState = .flipPending := by
  unfold FrameStore.flipDue
  cases f.request <;> simp [and_assoc]

/-- The engine begins the commit of an eligible head; otherwise nothing happens. -/
theorem State.beginCommit_cases (s : State) :
    (s.beginCommit = s ∧ ∀ e ∈ s.intake.queue.head?, s.intake.committing = false → e.content.eligible s.frame = false) ∨
    ∃ e rest, s.intake.queue = e :: rest ∧ s.intake.committing = false ∧ e.content.eligible s.frame = true ∧
      s.beginCommit = { s with intake.committing := true } := by
  unfold State.beginCommit
  split
  · rename_i e rest hq
    split
    · rename_i h
      simp only [Bool.and_eq_true, Bool.not_eq_true'] at h
      exact .inr ⟨e, rest, hq, h.1, h.2, rfl⟩
    · rename_i h
      refine .inl ⟨rfl, ?_⟩
      intro x hx hc
      simp only [hq, List.head?_cons, Option.mem_some_iff] at hx
      subst hx
      simpa [hc] using h
  · rename_i hq
    exact .inl ⟨rfl, by simp [hq]⟩

/-- The barrier responds to readiness in MEMBER by a release, a re-hold or the forced flag; otherwise nothing happens (R57). -/
theorem State.react_cases (s : State) :
    (s.react = s ∧ (s.join.station = .member →
      (s.barrier.phase = some .filling → s.ready = false) ∧
      (s.barrier.phase = some .ready → s.ready = true ∨ s.barrier.forced = true) ∧
      (s.barrier.phase = some .stalled → s.ready = true ∨ s.barrier.forced = true ∨ s.barrier.timer < s.holdLimit))) ∨
    (s.join.station = .member ∧ s.barrier.phase = some .filling ∧ s.ready = true ∧ s.react = s.releaseReady) ∨
    (s.join.station = .member ∧ s.barrier.phase = some .ready ∧ s.ready = false ∧ s.barrier.forced = false ∧
      s.barrier.timer < s.holdLimit ∧ s.react = s.rehold) ∨
    (s.join.station = .member ∧ (s.barrier.phase = some .ready ∨ s.barrier.phase = some .stalled) ∧ s.ready = false ∧
      s.barrier.forced = false ∧ s.holdLimit ≤ s.barrier.timer ∧ s.react = s.setForced) := by
  unfold State.react
  split
  · rename_i h
    exact .inl ⟨rfl, fun hm => absurd hm h⟩
  · rename_i hm
    simp only [ne_eq, not_not] at hm
    split
    · rename_i hp
      exact .inl ⟨rfl, fun _ => by simp [hp]⟩
    · rename_i hp
      split
      · rename_i hr
        exact .inr (.inl ⟨hm, hp, hr, rfl⟩)
      · rename_i hr
        exact .inl ⟨rfl, fun _ => by simp [hp, hr]⟩
    · rename_i hp
      split
      · rename_i h
        simp only [Bool.or_eq_true] at h
        exact .inl ⟨rfl, fun _ => by simp [hp, h]⟩
      · rename_i h
        simp only [Bool.or_eq_true, not_or, Bool.not_eq_true] at h
        split
        · rename_i ht
          exact .inr (.inr (.inl ⟨hm, hp, h.1, h.2, ht, rfl⟩))
        · rename_i ht
          exact .inr (.inr (.inr ⟨hm, .inl hp, h.1, h.2, by omega, rfl⟩))
    · rename_i hp
      split
      · rename_i h
        simp only [Bool.or_eq_true, decide_eq_true_eq, or_assoc] at h
        exact .inl ⟨rfl, fun _ => by simp [hp, h]⟩
      · rename_i h
        simp only [Bool.or_eq_true, decide_eq_true_eq, not_or, Bool.not_eq_true] at h
        exact .inr (.inr (.inr ⟨hm, .inr hp, h.1.1, h.1.2, by omega, rfl⟩))

/-- The arbiter hands over its candidate when the bus view is IDLE or OPENING and the transmitter free; otherwise nothing happens
(R120). -/
theorem State.arbitrate_cases (s : State) :
    (s.arbitrate = s ∧ (s.link.view = .idle ∨ s.link.view = .opening → s.pub.transmission = none → s.candidate = none)) ∨
    ∃ t, (s.link.view = .idle ∨ s.link.view = .opening) ∧ s.pub.transmission = none ∧ s.candidate = some t ∧
      s.arbitrate = { s with pub.transmission := some t, link.view := .opening, link.drive := .start } := by
  unfold State.arbitrate
  split
  · rename_i h
    split
    · rename_i t ht
      exact .inr ⟨t, h.1, h.2, ht, rfl⟩
    · rename_i ht
      exact .inl ⟨rfl, fun _ _ => ht⟩
  · rename_i h
    exact .inl ⟨rfl, fun h1 h2 => absurd ⟨h1, h2⟩ h⟩

/-! ### What each of the four leaves unchanged -/

@[simp] theorem State.tryFlip_resetHeld (s : State) : s.tryFlip.resetHeld = s.resetHeld := by
  rcases s.tryFlip_cases with ⟨h, -⟩ | ⟨r, q, -, -, -, h⟩
  · rw [h]
  · rw [h]
    cases q.damage <;> rfl

@[simp] theorem State.tryFlip_record (s : State) : s.tryFlip.record = s.record := by
  rcases s.tryFlip_cases with ⟨h, -⟩ | ⟨r, q, -, -, -, h⟩
  · rw [h]
  · rw [h]
    cases q.damage <;> rfl

@[simp] theorem State.tryFlip_digest (s : State) : s.tryFlip.digest = s.digest := by
  rcases s.tryFlip_cases with ⟨h, -⟩ | ⟨r, q, -, -, -, h⟩
  · rw [h]
  · rw [h]
    cases q.damage <;> rfl

@[simp] theorem State.tryFlip_join (s : State) : s.tryFlip.join = s.join := by
  rcases s.tryFlip_cases with ⟨h, -⟩ | ⟨r, q, -, -, -, h⟩
  · rw [h]
  · rw [h]
    cases q.damage <;> rfl

@[simp] theorem State.tryFlip_link (s : State) : s.tryFlip.link = s.link := by
  rcases s.tryFlip_cases with ⟨h, -⟩ | ⟨r, q, -, -, -, h⟩
  · rw [h]
  · rw [h]
    cases q.damage <;> rfl

@[simp] theorem State.tryFlip_rx (s : State) : s.tryFlip.rx = s.rx := by
  rcases s.tryFlip_cases with ⟨h, -⟩ | ⟨r, q, -, -, -, h⟩
  · rw [h]
  · rw [h]
    cases q.damage <;> rfl

@[simp] theorem State.tryFlip_roster (s : State) : s.tryFlip.roster = s.roster := by
  rcases s.tryFlip_cases with ⟨h, -⟩ | ⟨r, q, -, -, -, h⟩
  · rw [h]
  · rw [h]
    cases q.damage <;> rfl

@[simp] theorem State.tryFlip_intake (s : State) : s.tryFlip.intake = s.intake := by
  rcases s.tryFlip_cases with ⟨h, -⟩ | ⟨r, q, -, -, -, h⟩
  · rw [h]
  · rw [h]
    cases q.damage <;> rfl

@[simp] theorem State.tryFlip_barrier (s : State) : s.tryFlip.barrier = s.barrier := by
  rcases s.tryFlip_cases with ⟨h, -⟩ | ⟨r, q, -, -, -, h⟩
  · rw [h]
  · rw [h]
    cases q.damage <;> rfl

@[simp] theorem State.tryFlip_pub (s : State) : s.tryFlip.pub = s.pub := by
  rcases s.tryFlip_cases with ⟨h, -⟩ | ⟨r, q, -, -, -, h⟩
  · rw [h]
  · rw [h]
    cases q.damage <;> rfl

@[simp] theorem State.tryFlip_freeIndex (s : State) : s.tryFlip.freeIndex = s.freeIndex := by
  rcases s.tryFlip_cases with ⟨h, -⟩ | ⟨r, q, -, -, -, h⟩
  · rw [h]
  · rw [h]
    cases q.damage <;> rfl

@[simp] theorem State.tryFlip_pending (s : State) : s.tryFlip.pending = s.pending := by
  rcases s.tryFlip_cases with ⟨h, -⟩ | ⟨r, q, -, -, -, h⟩
  · rw [h]
  · rw [h]
    cases q.damage <;> rfl

@[simp] theorem State.tryFlip_port_counters (s : State) : s.tryFlip.port.counters = s.port.counters := by
  rcases s.tryFlip_cases with ⟨h, -⟩ | ⟨r, q, -, -, -, h⟩
  · rw [h]
  · rw [h]
    cases q.damage <;> rfl

@[simp] theorem State.tryFlip_port_mask (s : State) : s.tryFlip.port.mask = s.port.mask := by
  rcases s.tryFlip_cases with ⟨h, -⟩ | ⟨r, q, -, -, -, h⟩
  · rw [h]
  · rw [h]
    cases q.damage <;> rfl

@[simp] theorem State.tryFlip_port_phase (s : State) : s.tryFlip.port.phase = s.port.phase := by
  rcases s.tryFlip_cases with ⟨h, -⟩ | ⟨r, q, -, -, -, h⟩
  · rw [h]
  · rw [h]
    cases q.damage <;> rfl

@[simp] theorem State.tryFlip_port_psel (s : State) : s.tryFlip.port.psel = s.port.psel := by
  rcases s.tryFlip_cases with ⟨h, -⟩ | ⟨r, q, -, -, -, h⟩
  · rw [h]
  · rw [h]
    cases q.damage <;> rfl

@[simp] theorem State.tryFlip_port_command (s : State) : s.tryFlip.port.command = s.port.command := by
  rcases s.tryFlip_cases with ⟨h, -⟩ | ⟨r, q, -, -, -, h⟩
  · rw [h]
  · rw [h]
    cases q.damage <;> rfl

@[simp] theorem State.tryFlip_port_response (s : State) : s.tryFlip.port.response = s.port.response := by
  rcases s.tryFlip_cases with ⟨h, -⟩ | ⟨r, q, -, -, -, h⟩
  · rw [h]
  · rw [h]
    cases q.damage <;> rfl

@[simp] theorem State.beginCommit_resetHeld (s : State) : s.beginCommit.resetHeld = s.resetHeld := by
  rcases s.beginCommit_cases with ⟨h, -⟩ | ⟨e, rest, -, -, -, h⟩ <;> rw [h]

@[simp] theorem State.beginCommit_record (s : State) : s.beginCommit.record = s.record := by
  rcases s.beginCommit_cases with ⟨h, -⟩ | ⟨e, rest, -, -, -, h⟩ <;> rw [h]

@[simp] theorem State.beginCommit_digest (s : State) : s.beginCommit.digest = s.digest := by
  rcases s.beginCommit_cases with ⟨h, -⟩ | ⟨e, rest, -, -, -, h⟩ <;> rw [h]

@[simp] theorem State.beginCommit_join (s : State) : s.beginCommit.join = s.join := by
  rcases s.beginCommit_cases with ⟨h, -⟩ | ⟨e, rest, -, -, -, h⟩ <;> rw [h]

@[simp] theorem State.beginCommit_link (s : State) : s.beginCommit.link = s.link := by
  rcases s.beginCommit_cases with ⟨h, -⟩ | ⟨e, rest, -, -, -, h⟩ <;> rw [h]

@[simp] theorem State.beginCommit_rx (s : State) : s.beginCommit.rx = s.rx := by
  rcases s.beginCommit_cases with ⟨h, -⟩ | ⟨e, rest, -, -, -, h⟩ <;> rw [h]

@[simp] theorem State.beginCommit_roster (s : State) : s.beginCommit.roster = s.roster := by
  rcases s.beginCommit_cases with ⟨h, -⟩ | ⟨e, rest, -, -, -, h⟩ <;> rw [h]

@[simp] theorem State.beginCommit_barrier (s : State) : s.beginCommit.barrier = s.barrier := by
  rcases s.beginCommit_cases with ⟨h, -⟩ | ⟨e, rest, -, -, -, h⟩ <;> rw [h]

@[simp] theorem State.beginCommit_pub (s : State) : s.beginCommit.pub = s.pub := by
  rcases s.beginCommit_cases with ⟨h, -⟩ | ⟨e, rest, -, -, -, h⟩ <;> rw [h]

@[simp] theorem State.beginCommit_frame (s : State) : s.beginCommit.frame = s.frame := by
  rcases s.beginCommit_cases with ⟨h, -⟩ | ⟨e, rest, -, -, -, h⟩ <;> rw [h]

@[simp] theorem State.beginCommit_port (s : State) : s.beginCommit.port = s.port := by
  rcases s.beginCommit_cases with ⟨h, -⟩ | ⟨e, rest, -, -, -, h⟩ <;> rw [h]

@[simp] theorem State.beginCommit_freeIndex (s : State) : s.beginCommit.freeIndex = s.freeIndex := by
  rcases s.beginCommit_cases with ⟨h, -⟩ | ⟨e, rest, -, -, -, h⟩ <;> rw [h]

@[simp] theorem State.beginCommit_pending (s : State) : s.beginCommit.pending = s.pending := by
  rcases s.beginCommit_cases with ⟨h, -⟩ | ⟨e, rest, -, -, -, h⟩ <;> rw [h]

@[simp] theorem State.beginCommit_intake_queue (s : State) : s.beginCommit.intake.queue = s.intake.queue := by
  rcases s.beginCommit_cases with ⟨h, -⟩ | ⟨e, rest, -, -, -, h⟩ <;> rw [h]

@[simp] theorem State.beginCommit_intake_palette (s : State) : s.beginCommit.intake.palette = s.intake.palette := by
  rcases s.beginCommit_cases with ⟨h, -⟩ | ⟨e, rest, -, -, -, h⟩ <;> rw [h]

@[simp] theorem State.react_resetHeld (s : State) : s.react.resetHeld = s.resetHeld := by
  rcases s.react_cases with ⟨h, -⟩ | ⟨-, -, -, h⟩ | ⟨-, -, -, -, -, h⟩ | ⟨-, -, -, -, -, h⟩ <;> rw [h] <;> rfl

@[simp] theorem State.react_record (s : State) : s.react.record = s.record := by
  rcases s.react_cases with ⟨h, -⟩ | ⟨-, -, -, h⟩ | ⟨-, -, -, -, -, h⟩ | ⟨-, -, -, -, -, h⟩ <;> rw [h] <;> rfl

@[simp] theorem State.react_digest (s : State) : s.react.digest = s.digest := by
  rcases s.react_cases with ⟨h, -⟩ | ⟨-, -, -, h⟩ | ⟨-, -, -, -, -, h⟩ | ⟨-, -, -, -, -, h⟩ <;> rw [h] <;> rfl

@[simp] theorem State.react_join (s : State) : s.react.join = s.join := by
  rcases s.react_cases with ⟨h, -⟩ | ⟨-, -, -, h⟩ | ⟨-, -, -, -, -, h⟩ | ⟨-, -, -, -, -, h⟩ <;> rw [h] <;> rfl

@[simp] theorem State.react_link (s : State) : s.react.link = s.link := by
  rcases s.react_cases with ⟨h, -⟩ | ⟨-, -, -, h⟩ | ⟨-, -, -, -, -, h⟩ | ⟨-, -, -, -, -, h⟩ <;> rw [h] <;> rfl

@[simp] theorem State.react_rx (s : State) : s.react.rx = s.rx := by
  rcases s.react_cases with ⟨h, -⟩ | ⟨-, -, -, h⟩ | ⟨-, -, -, -, -, h⟩ | ⟨-, -, -, -, -, h⟩ <;> rw [h] <;> rfl

@[simp] theorem State.react_roster (s : State) : s.react.roster = s.roster := by
  rcases s.react_cases with ⟨h, -⟩ | ⟨-, -, -, h⟩ | ⟨-, -, -, -, -, h⟩ | ⟨-, -, -, -, -, h⟩ <;> rw [h] <;> rfl

@[simp] theorem State.react_intake (s : State) : s.react.intake = s.intake := by
  rcases s.react_cases with ⟨h, -⟩ | ⟨-, -, -, h⟩ | ⟨-, -, -, -, -, h⟩ | ⟨-, -, -, -, -, h⟩ <;> rw [h] <;> rfl

@[simp] theorem State.react_pub (s : State) : s.react.pub = s.pub := by
  rcases s.react_cases with ⟨h, -⟩ | ⟨-, -, -, h⟩ | ⟨-, -, -, -, -, h⟩ | ⟨-, -, -, -, -, h⟩ <;> rw [h] <;> rfl

@[simp] theorem State.react_frame (s : State) : s.react.frame = s.frame := by
  rcases s.react_cases with ⟨h, -⟩ | ⟨-, -, -, h⟩ | ⟨-, -, -, -, -, h⟩ | ⟨-, -, -, -, -, h⟩ <;> rw [h] <;> rfl

@[simp] theorem State.react_freeIndex (s : State) : s.react.freeIndex = s.freeIndex := by
  rcases s.react_cases with ⟨h, -⟩ | ⟨-, -, -, h⟩ | ⟨-, -, -, -, -, h⟩ | ⟨-, -, -, -, -, h⟩ <;> rw [h] <;> rfl

@[simp] theorem State.react_pending (s : State) : s.react.pending = s.pending := by
  rcases s.react_cases with ⟨h, -⟩ | ⟨-, -, -, h⟩ | ⟨-, -, -, -, -, h⟩ | ⟨-, -, -, -, -, h⟩ <;> rw [h] <;> rfl

@[simp] theorem State.react_barrier_fillTag (s : State) : s.react.barrier.fillTag = s.barrier.fillTag := by
  rcases s.react_cases with ⟨h, -⟩ | ⟨-, -, -, h⟩ | ⟨-, -, -, -, -, h⟩ | ⟨-, -, -, -, -, h⟩ <;> rw [h] <;> rfl

@[simp] theorem State.react_barrier_timer (s : State) : s.react.barrier.timer = s.barrier.timer := by
  rcases s.react_cases with ⟨h, -⟩ | ⟨-, -, -, h⟩ | ⟨-, -, -, -, -, h⟩ | ⟨-, -, -, -, -, h⟩ <;> rw [h] <;> rfl

@[simp] theorem State.react_barrier_timerRunning (s : State) : s.react.barrier.timerRunning = s.barrier.timerRunning := by
  rcases s.react_cases with ⟨h, -⟩ | ⟨-, -, -, h⟩ | ⟨-, -, -, -, -, h⟩ | ⟨-, -, -, -, -, h⟩ <;> rw [h] <;> rfl

@[simp] theorem State.react_barrier_redrive (s : State) : s.react.barrier.redrive = s.barrier.redrive := by
  rcases s.react_cases with ⟨h, -⟩ | ⟨-, -, -, h⟩ | ⟨-, -, -, -, -, h⟩ | ⟨-, -, -, -, -, h⟩ <;> rw [h] <;> rfl

@[simp] theorem State.react_barrier_openDamage (s : State) : s.react.barrier.openDamage = s.barrier.openDamage := by
  rcases s.react_cases with ⟨h, -⟩ | ⟨-, -, -, h⟩ | ⟨-, -, -, -, -, h⟩ | ⟨-, -, -, -, -, h⟩ <;> rw [h] <;> rfl

@[simp] theorem State.react_barrier_cadence (s : State) : s.react.barrier.cadence = s.barrier.cadence := by
  rcases s.react_cases with ⟨h, -⟩ | ⟨-, -, -, h⟩ | ⟨-, -, -, -, -, h⟩ | ⟨-, -, -, -, -, h⟩ <;> rw [h] <;> rfl

@[simp] theorem State.react_barrier_confirmed (s : State) : s.react.barrier.confirmed = s.barrier.confirmed := by
  rcases s.react_cases with ⟨h, -⟩ | ⟨-, -, -, h⟩ | ⟨-, -, -, -, -, h⟩ | ⟨-, -, -, -, -, h⟩ <;> rw [h] <;> rfl

@[simp] theorem State.react_port_mask (s : State) : s.react.port.mask = s.port.mask := by
  rcases s.react_cases with ⟨h, -⟩ | ⟨-, -, -, h⟩ | ⟨-, -, -, -, -, h⟩ | ⟨-, -, -, -, -, h⟩ <;> rw [h] <;> rfl

@[simp] theorem State.react_port_phase (s : State) : s.react.port.phase = s.port.phase := by
  rcases s.react_cases with ⟨h, -⟩ | ⟨-, -, -, h⟩ | ⟨-, -, -, -, -, h⟩ | ⟨-, -, -, -, -, h⟩ <;> rw [h] <;> rfl

@[simp] theorem State.react_port_psel (s : State) : s.react.port.psel = s.port.psel := by
  rcases s.react_cases with ⟨h, -⟩ | ⟨-, -, -, h⟩ | ⟨-, -, -, -, -, h⟩ | ⟨-, -, -, -, -, h⟩ <;> rw [h] <;> rfl

@[simp] theorem State.react_port_command (s : State) : s.react.port.command = s.port.command := by
  rcases s.react_cases with ⟨h, -⟩ | ⟨-, -, -, h⟩ | ⟨-, -, -, -, -, h⟩ | ⟨-, -, -, -, -, h⟩ <;> rw [h] <;> rfl

@[simp] theorem State.react_port_response (s : State) : s.react.port.response = s.port.response := by
  rcases s.react_cases with ⟨h, -⟩ | ⟨-, -, -, h⟩ | ⟨-, -, -, -, -, h⟩ | ⟨-, -, -, -, -, h⟩ <;> rw [h] <;> rfl

@[simp] theorem State.arbitrate_resetHeld (s : State) : s.arbitrate.resetHeld = s.resetHeld := by
  rcases s.arbitrate_cases with ⟨h, -⟩ | ⟨t, -, -, -, h⟩ <;> rw [h]

@[simp] theorem State.arbitrate_record (s : State) : s.arbitrate.record = s.record := by
  rcases s.arbitrate_cases with ⟨h, -⟩ | ⟨t, -, -, -, h⟩ <;> rw [h]

@[simp] theorem State.arbitrate_digest (s : State) : s.arbitrate.digest = s.digest := by
  rcases s.arbitrate_cases with ⟨h, -⟩ | ⟨t, -, -, -, h⟩ <;> rw [h]

@[simp] theorem State.arbitrate_join (s : State) : s.arbitrate.join = s.join := by
  rcases s.arbitrate_cases with ⟨h, -⟩ | ⟨t, -, -, -, h⟩ <;> rw [h]

@[simp] theorem State.arbitrate_rx (s : State) : s.arbitrate.rx = s.rx := by
  rcases s.arbitrate_cases with ⟨h, -⟩ | ⟨t, -, -, -, h⟩ <;> rw [h]

@[simp] theorem State.arbitrate_roster (s : State) : s.arbitrate.roster = s.roster := by
  rcases s.arbitrate_cases with ⟨h, -⟩ | ⟨t, -, -, -, h⟩ <;> rw [h]

@[simp] theorem State.arbitrate_intake (s : State) : s.arbitrate.intake = s.intake := by
  rcases s.arbitrate_cases with ⟨h, -⟩ | ⟨t, -, -, -, h⟩ <;> rw [h]

@[simp] theorem State.arbitrate_barrier (s : State) : s.arbitrate.barrier = s.barrier := by
  rcases s.arbitrate_cases with ⟨h, -⟩ | ⟨t, -, -, -, h⟩ <;> rw [h]

@[simp] theorem State.arbitrate_frame (s : State) : s.arbitrate.frame = s.frame := by
  rcases s.arbitrate_cases with ⟨h, -⟩ | ⟨t, -, -, -, h⟩ <;> rw [h]

@[simp] theorem State.arbitrate_port (s : State) : s.arbitrate.port = s.port := by
  rcases s.arbitrate_cases with ⟨h, -⟩ | ⟨t, -, -, -, h⟩ <;> rw [h]

@[simp] theorem State.arbitrate_freeIndex (s : State) : s.arbitrate.freeIndex = s.freeIndex := by
  rcases s.arbitrate_cases with ⟨h, -⟩ | ⟨t, -, -, -, h⟩ <;> rw [h]

@[simp] theorem State.arbitrate_pending (s : State) : s.arbitrate.pending = s.pending := by
  rcases s.arbitrate_cases with ⟨h, -⟩ | ⟨t, -, -, -, h⟩ <;> rw [h]

@[simp] theorem State.arbitrate_link_idleCount (s : State) : s.arbitrate.link.idleCount = s.link.idleCount := by
  rcases s.arbitrate_cases with ⟨h, -⟩ | ⟨t, -, -, -, h⟩ <;> rw [h]

@[simp] theorem State.arbitrate_link_bitOpen (s : State) : s.arbitrate.link.bitOpen = s.link.bitOpen := by
  rcases s.arbitrate_cases with ⟨h, -⟩ | ⟨t, -, -, -, h⟩ <;> rw [h]

@[simp] theorem State.arbitrate_link_atSlot (s : State) : s.arbitrate.link.atSlot = s.link.atSlot := by
  rcases s.arbitrate_cases with ⟨h, -⟩ | ⟨t, -, -, -, h⟩ <;> rw [h]

@[simp] theorem State.arbitrate_link_refuse (s : State) : s.arbitrate.link.refuse = s.link.refuse := by
  rcases s.arbitrate_cases with ⟨h, -⟩ | ⟨t, -, -, -, h⟩ <;> rw [h]

@[simp] theorem State.arbitrate_pub_queue (s : State) : s.arbitrate.pub.queue = s.pub.queue := by
  rcases s.arbitrate_cases with ⟨h, -⟩ | ⟨t, -, -, -, h⟩ <;> rw [h]

@[simp] theorem State.arbitrate_pub_staging (s : State) : s.arbitrate.pub.staging = s.pub.staging := by
  rcases s.arbitrate_cases with ⟨h, -⟩ | ⟨t, -, -, -, h⟩ <;> rw [h]

@[simp] theorem State.arbitrate_pub_stagingNext (s : State) : s.arbitrate.pub.stagingNext = s.pub.stagingNext := by
  rcases s.arbitrate_cases with ⟨h, -⟩ | ⟨t, -, -, -, h⟩ <;> rw [h]

@[simp] theorem State.arbitrate_pub_held (s : State) : s.arbitrate.pub.held = s.pub.held := by
  rcases s.arbitrate_cases with ⟨h, -⟩ | ⟨t, -, -, -, h⟩ <;> rw [h]

@[simp] theorem State.arbitrate_pub_welcomePending (s : State) : s.arbitrate.pub.welcomePending = s.pub.welcomePending := by
  rcases s.arbitrate_cases with ⟨h, -⟩ | ⟨t, -, -, -, h⟩ <;> rw [h]

@[simp] theorem State.arbitrate_pub_spaceWanted (s : State) : s.arbitrate.pub.spaceWanted = s.pub.spaceWanted := by
  rcases s.arbitrate_cases with ⟨h, -⟩ | ⟨t, -, -, -, h⟩ <;> rw [h]

/-! ### `State.beside` and `State.settle` -/

/-- An event beside a completion is the station's own act, with what a truncation takes back of it brought up to date; with nothing but
counts to take back, it is the act alone (R28). -/
theorem State.beside_eq (f g : State → State) (s : State) :
    ∃ x, s.beside f g = { f s with rx := { (f s).rx with undo := x } } ∧
      ((∀ u ∈ s.rx.undo, u.blocks = none) → s.beside f g = f s) := by
  unfold State.beside
  cases hu : s.rx.undo with
  | none => exact ⟨_, rfl, fun _ => rfl⟩
  | some u =>
    cases hb : u.blocks with
    | none => exact ⟨(f s).rx.undo, by simp [hb], fun _ => by simp [hb]⟩
    | some b => exact ⟨_, by simp [hb]; rfl, fun h => absurd (h u rfl) (by simp [hb])⟩

/-- With no completion between its last bit and its slot, an event is the station's own act alone. -/
theorem State.beside_of_no_undo (f g : State → State) (s : State) (h : s.rx.undo = none) : s.beside f g = f s := by
  obtain ⟨x, -, h'⟩ := s.beside_eq f g
  exact h' (by simp [h])

/-- Settling is the flip, the beginning of a commit, the barrier's response and the arbiter's choice, with what a truncation takes back
brought up to date. -/
theorem State.settle_eq (s : State) :
    ∃ x, s.settle = { s.settleBlocks with rx := { s.settleBlocks.rx with undo := x } } ∧
      ((∀ u ∈ s.rx.undo, u.blocks = none) → s.settle = s.settleBlocks) :=
  s.beside_eq State.settleBlocks State.settleBlocks

/-! ### What settling leaves unchanged -/

@[simp] theorem State.settle_resetHeld (s : State) : s.settle.resetHeld = s.resetHeld := by
  obtain ⟨x, h, -⟩ := s.settle_eq
  simp [h, State.settleBlocks]

@[simp] theorem State.settle_record (s : State) : s.settle.record = s.record := by
  obtain ⟨x, h, -⟩ := s.settle_eq
  simp [h, State.settleBlocks]

@[simp] theorem State.settle_digest (s : State) : s.settle.digest = s.digest := by
  obtain ⟨x, h, -⟩ := s.settle_eq
  simp [h, State.settleBlocks]

@[simp] theorem State.settle_join (s : State) : s.settle.join = s.join := by
  obtain ⟨x, h, -⟩ := s.settle_eq
  simp [h, State.settleBlocks]

@[simp] theorem State.settle_rx_outcome (s : State) : s.settle.rx.outcome = s.rx.outcome := by
  obtain ⟨x, h, -⟩ := s.settle_eq
  simp [h, State.settleBlocks]

@[simp] theorem State.settle_rx_missed (s : State) : s.settle.rx.missed = s.rx.missed := by
  obtain ⟨x, h, -⟩ := s.settle_eq
  simp [h, State.settleBlocks]

@[simp] theorem State.settle_rx_overflow (s : State) : s.settle.rx.overflow = s.rx.overflow := by
  obtain ⟨x, h, -⟩ := s.settle_eq
  simp [h, State.settleBlocks]

@[simp] theorem State.settle_roster (s : State) : s.settle.roster = s.roster := by
  obtain ⟨x, h, -⟩ := s.settle_eq
  simp [h, State.settleBlocks]

@[simp] theorem State.settle_freeIndex (s : State) : s.settle.freeIndex = s.freeIndex := by
  obtain ⟨x, h, -⟩ := s.settle_eq
  simp [h, State.settleBlocks]

@[simp] theorem State.settle_pending (s : State) : s.settle.pending = s.pending := by
  obtain ⟨x, h, -⟩ := s.settle_eq
  simp [h, State.settleBlocks]

@[simp] theorem State.settle_intake_queue (s : State) : s.settle.intake.queue = s.intake.queue := by
  obtain ⟨x, h, -⟩ := s.settle_eq
  simp [h, State.settleBlocks]

@[simp] theorem State.settle_intake_palette (s : State) : s.settle.intake.palette = s.intake.palette := by
  obtain ⟨x, h, -⟩ := s.settle_eq
  simp [h, State.settleBlocks]

@[simp] theorem State.settle_barrier_fillTag (s : State) : s.settle.barrier.fillTag = s.barrier.fillTag := by
  obtain ⟨x, h, -⟩ := s.settle_eq
  simp [h, State.settleBlocks]

@[simp] theorem State.settle_barrier_timer (s : State) : s.settle.barrier.timer = s.barrier.timer := by
  obtain ⟨x, h, -⟩ := s.settle_eq
  simp [h, State.settleBlocks]

@[simp] theorem State.settle_barrier_timerRunning (s : State) : s.settle.barrier.timerRunning = s.barrier.timerRunning := by
  obtain ⟨x, h, -⟩ := s.settle_eq
  simp [h, State.settleBlocks]

@[simp] theorem State.settle_barrier_redrive (s : State) : s.settle.barrier.redrive = s.barrier.redrive := by
  obtain ⟨x, h, -⟩ := s.settle_eq
  simp [h, State.settleBlocks]

@[simp] theorem State.settle_barrier_openDamage (s : State) : s.settle.barrier.openDamage = s.barrier.openDamage := by
  obtain ⟨x, h, -⟩ := s.settle_eq
  simp [h, State.settleBlocks]

@[simp] theorem State.settle_barrier_cadence (s : State) : s.settle.barrier.cadence = s.barrier.cadence := by
  obtain ⟨x, h, -⟩ := s.settle_eq
  simp [h, State.settleBlocks]

@[simp] theorem State.settle_barrier_confirmed (s : State) : s.settle.barrier.confirmed = s.barrier.confirmed := by
  obtain ⟨x, h, -⟩ := s.settle_eq
  simp [h, State.settleBlocks]

@[simp] theorem State.settle_port_mask (s : State) : s.settle.port.mask = s.port.mask := by
  obtain ⟨x, h, -⟩ := s.settle_eq
  simp [h, State.settleBlocks]

@[simp] theorem State.settle_port_phase (s : State) : s.settle.port.phase = s.port.phase := by
  obtain ⟨x, h, -⟩ := s.settle_eq
  simp [h, State.settleBlocks]

@[simp] theorem State.settle_port_psel (s : State) : s.settle.port.psel = s.port.psel := by
  obtain ⟨x, h, -⟩ := s.settle_eq
  simp [h, State.settleBlocks]

@[simp] theorem State.settle_port_command (s : State) : s.settle.port.command = s.port.command := by
  obtain ⟨x, h, -⟩ := s.settle_eq
  simp [h, State.settleBlocks]

@[simp] theorem State.settle_port_response (s : State) : s.settle.port.response = s.port.response := by
  obtain ⟨x, h, -⟩ := s.settle_eq
  simp [h, State.settleBlocks]

@[simp] theorem State.settle_link_idleCount (s : State) : s.settle.link.idleCount = s.link.idleCount := by
  obtain ⟨x, h, -⟩ := s.settle_eq
  simp [h, State.settleBlocks]

@[simp] theorem State.settle_link_bitOpen (s : State) : s.settle.link.bitOpen = s.link.bitOpen := by
  obtain ⟨x, h, -⟩ := s.settle_eq
  simp [h, State.settleBlocks]

@[simp] theorem State.settle_link_atSlot (s : State) : s.settle.link.atSlot = s.link.atSlot := by
  obtain ⟨x, h, -⟩ := s.settle_eq
  simp [h, State.settleBlocks]

@[simp] theorem State.settle_link_refuse (s : State) : s.settle.link.refuse = s.link.refuse := by
  obtain ⟨x, h, -⟩ := s.settle_eq
  simp [h, State.settleBlocks]

@[simp] theorem State.settle_pub_queue (s : State) : s.settle.pub.queue = s.pub.queue := by
  obtain ⟨x, h, -⟩ := s.settle_eq
  simp [h, State.settleBlocks]

@[simp] theorem State.settle_pub_staging (s : State) : s.settle.pub.staging = s.pub.staging := by
  obtain ⟨x, h, -⟩ := s.settle_eq
  simp [h, State.settleBlocks]

@[simp] theorem State.settle_pub_stagingNext (s : State) : s.settle.pub.stagingNext = s.pub.stagingNext := by
  obtain ⟨x, h, -⟩ := s.settle_eq
  simp [h, State.settleBlocks]

@[simp] theorem State.settle_pub_held (s : State) : s.settle.pub.held = s.pub.held := by
  obtain ⟨x, h, -⟩ := s.settle_eq
  simp [h, State.settleBlocks]

@[simp] theorem State.settle_pub_welcomePending (s : State) : s.settle.pub.welcomePending = s.pub.welcomePending := by
  obtain ⟨x, h, -⟩ := s.settle_eq
  simp [h, State.settleBlocks]

@[simp] theorem State.settle_pub_spaceWanted (s : State) : s.settle.pub.spaceWanted = s.pub.spaceWanted := by
  obtain ⟨x, h, -⟩ := s.settle_eq
  simp [h, State.settleBlocks]

/-- A station with nothing left undone settles into itself. -/
theorem State.settleBlocks_of_quiet (s : State) (h1 : s.tryFlip = s) (h2 : s.beginCommit = s) (h3 : s.react = s)
    (h4 : s.arbitrate = s) : s.settleBlocks = s := by
  unfold State.settleBlocks
  rw [h1, h2, h3, h4]

end Sys2Proof.Machine
end

