-- ==== Sys2Proof/Laws/Port.lean ====
section
/-! SUPPORT. What receiving a command at the local port can do: it is not taken, it is answered STATE, or it acts. -/

namespace Sys2Proof.Machine

variable {s : State} {code : Byte} {params : List Byte} {need : List Byte → Nat} {listed : StationState → Bool}
  {act : List Byte → State → State × Result × List Byte}

/-- Outside the COMMAND phase a command byte begins nothing. -/
theorem State.receive_of_phase (h : s.port.phase ≠ .command) : s.receive code params need listed act = s := by
  simp [State.receive, h]

/-- With fewer bytes than the command has, it is not taken. -/
theorem State.receive_of_short (h : s.port.phase = .command) (hp : params.length < need params) :
    s.receive code params need listed act = { s with port.phase := .parameters, port.command := code :: params } := by
  simp [State.receive, h, hp]

/-- The station in which `act` runs: the command taken, with the bytes it has. -/
def State.taking (s : State) (code : Byte) (params : List Byte) (n : Nat) : State :=
  { s with port.phase := .response, port.command := code :: params.take n }

/-- In a station state that does not list the command, it is answered STATE. -/
theorem State.receive_of_unlisted (h : s.port.phase = .command) (hp : need params ≤ params.length)
    (hl : listed s.join.station = false) :
    s.receive code params need listed act =
      { s.taking code params (need params) with port.response := [0x03] } := by
  simp [State.receive, h, Nat.not_lt.2 hp, hl, State.taking, Result.byte]

/-- In a station state that lists the command, its action runs and its response stands in the response buffer. -/
theorem State.receive_of_listed (h : s.port.phase = .command) (hp : need params ≤ params.length)
    (hl : listed s.join.station = true) :
    s.receive code params need listed act =
      let a := act (params.take (need params)) (s.taking code params (need params))
      { a.1 with port.response := a.2.1.byte :: (if a.2.1 = .ok then a.2.2 else []) } := by
  unfold State.receive
  rw [if_neg (not_not.2 h), if_neg (Nat.not_lt.2 hp)]
  simp only
  rw [if_pos hl]
  rfl

/-- Everything receiving can do, once: a property that holds of the state, of the two states that take nothing further, and of
what the action gives, holds of the state after it. -/
theorem State.receive_induction {P : State → Prop} (h0 : P s)
    (h1 : P { s with port.phase := .parameters, port.command := code :: params })
    (h2 : ∀ t, t = s.taking code params (need params) → P { t with port.response := [0x03] })
    (h3 : ∀ t a, t = s.taking code params (need params) → a = act (params.take (need params)) t → need params ≤ params.length →
      listed s.join.station = true →
      P { a.1 with port.response := a.2.1.byte :: (if a.2.1 = .ok then a.2.2 else []) }) :
    P (s.receive code params need listed act) := by
  by_cases hc : s.port.phase = .command
  · by_cases hp : params.length < need params
    · rw [State.receive_of_short hc hp]; exact h1
    · by_cases hl : listed s.join.station = true
      · rw [State.receive_of_listed hc (Nat.not_lt.1 hp) hl]; exact h3 _ _ rfl rfl (Nat.not_lt.1 hp) hl
      · rw [State.receive_of_unlisted hc (Nat.not_lt.1 hp) (by simpa using hl)]; exact h2 _ rfl
  · rw [State.receive_of_phase hc]; exact h0

/-- The two ways a valid request ends: appended, or turned away with the space-wanted mark set (R117). -/
theorem State.takeRequest_cases (s : State) (body : RequestBody) (payload : List RawPixel) :
    (s.pub.queue.length < 16 ∧ body.places ≤ s.pub.stagingFree ∧
      s.takeRequest body payload = ({ s with pub := s.pub.append body payload }, .ok)) ∨
    (¬ (s.pub.queue.length < 16 ∧ body.places ≤ s.pub.stagingFree) ∧
      s.takeRequest body payload = ({ s with pub.spaceWanted := true }, .full)) := by
  unfold State.takeRequest
  split
  · exact .inl ⟨‹_ ∧ _›.1, ‹_ ∧ _›.2, rfl⟩
  · exact .inr ⟨‹_›, rfl⟩

/-! ### `State.startJoining`, before it settles, and `State.configureWith` -/

@[simp] theorem State.configureWith_station (s : State) (r : Record) : (s.configureWith r).join.station = .configured := rfl
@[simp] theorem State.configureWith_record (s : State) (r : Record) : (s.configureWith r).record = some r := rfl
@[simp] theorem State.configureWith_digest (s : State) (r : Record) : (s.configureWith r).digest = some (crc r.wallBytes) := rfl
@[simp] theorem State.configureWith_roster (s : State) (r : Record) : (s.configureWith r).roster = s.roster := rfl
@[simp] theorem State.configureWith_intake (s : State) (r : Record) : (s.configureWith r).intake = s.intake := rfl
@[simp] theorem State.configureWith_barrier (s : State) (r : Record) : (s.configureWith r).barrier = s.barrier := rfl
@[simp] theorem State.configureWith_pub (s : State) (r : Record) : (s.configureWith r).pub = s.pub := rfl
@[simp] theorem State.configureWith_port (s : State) (r : Record) : (s.configureWith r).port = s.port := rfl

end Sys2Proof.Machine
end

