-- ==== Sys2Proof/Laws/Publishing.lean ====
section
/-! SUPPORT. What the Publisher's operations can do: removals, attempts, and the outcomes of a transmission. -/

namespace Sys2Proof.Machine

/-- A removal raises SPACE when the space-wanted mark is set, and clears the mark (R118). -/
theorem State.spaceFreed_eq (s : State) :
    s.spaceFreed =
      { s with pub.spaceWanted := false
               port.events := if s.pub.spaceWanted then s.port.events ||| 0x020 else s.port.events } := by
  unfold State.spaceFreed
  cases h : s.pub.spaceWanted
  · obtain ⟨_, _, _, _, _, _, _, _, _, pub, _, _, _, _⟩ := s
    obtain ⟨_, _, _, _, _, _, _⟩ := pub
    simp only at h
    simp [h]
  · simp [State.raise, Event.bit]

/-- The head of the queue removed, once for everything that it changes (R116, R118). -/
theorem State.removeHead_eq {s : State} {q : Request} {rest : List Request} (h : s.pub.queue = q :: rest) :
    s.removeHead =
      { s with pub := { s.pub with queue := rest, spaceWanted := false }
               port.events := if s.pub.spaceWanted then s.port.events ||| 0x020 else s.port.events } := by
  simp [State.removeHead, h, State.spaceFreed_eq]

/-- A failed attempt: the request stays with one attempt more, or goes with its fourth (R123, R127). -/
theorem State.failedAttempt_cases {s : State} {q : Request} {rest : List Request} (h : s.pub.queue = q :: rest) :
    (q.attempts + 1 < 4 ∧
      s.failedAttempt q = { s with pub := { s.pub with queue := { q with attempts := q.attempts + 1 } :: rest } }) ∨
    (4 ≤ q.attempts + 1 ∧
      s.failedAttempt q = ((s.removeHead.count .dropped).raise .drop).holdIf (decide (q.body = .endFrame))) := by
  unfold State.failedAttempt Config.maxAttempts
  split
  · exact .inl ⟨‹_›, by simp [State.attempt, h]⟩
  · exact .inr ⟨by omega, rfl⟩

/-- The report of a transmission, by its source; the transmission record is empty before the source acts on it (R121). -/
theorem State.report_cases (s : State) (r : Report) :
    (s.pub.transmission = none ∧ s.report r = s) ∨
    ∃ t, s.pub.transmission = some t ∧
      ((t.source = .join ∧ s.report r = State.joinReport { s with pub.transmission := none } r) ∨
       (t.source = .welcome ∧ s.report r = State.welcomeReport { s with pub.transmission := none } r) ∨
       (t.source = .request ∧ s.pub.queue = [] ∧ s.report r = { s with pub.transmission := none }) ∨
       ∃ q rest, t.source = .request ∧ s.pub.queue = q :: rest ∧
         s.report r = State.requestReport { s with pub.transmission := none } t q r) := by
  unfold State.report
  cases ht : s.pub.transmission with
  | none => exact .inl ⟨rfl, rfl⟩
  | some t =>
    refine .inr ⟨t, rfl, ?_⟩
    cases hs : t.source with
    | join => exact .inl ⟨rfl, by simp [hs]⟩
    | welcome => exact .inr (.inl ⟨rfl, by simp [hs]⟩)
    | request =>
      cases hq : s.pub.queue with
      | nil => exact .inr (.inr (.inl ⟨rfl, rfl, by simp [hs, hq]⟩))
      | cons q rest => exact .inr (.inr (.inr ⟨q, rest, rfl, rfl, by simp [hs, hq]⟩))

/-- A flush: nothing to remove; every request removed; or the one in transmission kept, with its flush mark set (R129). -/
theorem State.flushQueue_cases (s : State) :
    (s.pub.sendingRequest = false ∧ s.pub.queue = [] ∧ s.flushQueue = s) ∨
    (s.pub.sendingRequest = false ∧ s.pub.queue ≠ [] ∧ s.flushQueue = State.spaceFreed { s with pub.queue := [] }) ∨
    (s.pub.sendingRequest = true ∧
      let t : State :=
        { s with pub := { s.pub with queue := s.pub.queue.take 1, stagingNext := s.pub.nextAfterHead,
                                     transmission := s.pub.transmission.map fun x => { x with flush := true } } }
      s.flushQueue = if 1 < s.pub.queue.length then t.spaceFreed else t) := by
  unfold State.flushQueue
  cases h : s.pub.sendingRequest
  · cases hq : s.pub.queue with
    | nil => exact .inl ⟨rfl, rfl, by simp⟩
    | cons q rest => exact .inr (.inl ⟨rfl, by simp, by simp⟩)
  · exact .inr (.inr ⟨rfl, by simp⟩)

end Sys2Proof.Machine
end

