-- ==== Sys2Proof/Laws/Stations.lean ====
section
/-! SUPPORT. What a swap edge, an entry to OBSERVER and the carrying out of a pending outcome give, field by field. -/

namespace Sys2Proof.Machine

/-! ### `State.swapEdge` -/

/-- A change of the roster in place touches the roster and the port alone. -/
theorem State.withRoster_eq (s : State) (c : RosterChange) :
    ∃ p : Port, s.withRoster c = { s with roster := c.roster, port := p } ∧
      p = { s.port with events := p.events, counters := p.counters } := by
  cases h1 : c.event <;> cases h2 : c.overflow <;> simp [State.withRoster, State.raiseIf, State.countIf, h1, h2, State.raise, State.count]

/-- The moves at a swap edge, with the port left to its own fields: every other block as its own edge operation gives it (R66–R69). -/
theorem State.edgeMoves_eq (s : State) :
    ∃ p : Port, s.edgeMoves =
        { s with
          join := s.join.edge, barrier := s.barrierAtEdge, rx := s.rx.edge,
          intake := { s.intake with queue := s.intake.kept (nextTag s.barrier.fillTag) },
          frame := s.frame.edge s.barrier.fillTag s.intake.committing, pub := s.pub.edge,
          roster := (ageRoster s.roster).roster, port := p } ∧
      p = { s.port with events := p.events, counters := p.counters } ∧ p.counters.swaps = saturate s.port.counters.swaps := by
  cases hd : s.damagedAtEdge <;> cases he : (ageRoster s.roster).event <;> by_cases hl : s.join.station = .listening <;>
    simp [State.edgeMoves, State.withRoster, State.raiseIf, State.countIf, State.raise, State.count, Counters.bump, hd, he, hl,
      show (ageRoster s.roster).overflow = false from rfl]

/-- A mark of damage sets the note of the standing request, or raises DAMAGE when none stands (R141). -/
theorem State.markDamage_cases (s : State) :
    (∃ q, s.frame.request = some q ∧
      s.markDamage = { s with frame := { s.frame with request := some { q with damage := true } } }) ∨
    (s.frame.request = none ∧ s.markDamage = s.raise .damage) := by
  unfold State.markDamage
  cases h : s.frame.request with
  | none => exact .inr ⟨rfl, rfl⟩
  | some q => exact .inl ⟨q, rfl, rfl⟩

/-- A swap edge is the blocks' moves and, for a damaged frame, the marks of damage, or in the last row of a pass the note that they are
still to be made (R66, R141). -/
theorem State.swapEdge_cases (s : State) :
    (s.damagedAtEdge = false ∧ s.swapEdge = s.edgeMoves) ∨
      (s.damagedAtEdge = true ∧ s.atLastRow = false ∧ s.swapEdge = s.edgeMoves.markDamage) ∨
      (s.damagedAtEdge = true ∧ s.atLastRow = true ∧
        s.swapEdge = { s.edgeMoves with frame := { s.edgeMoves.frame with markDue := true } }) := by
  cases h1 : s.atLastRow <;> cases h2 : s.damagedAtEdge <;> simp [State.swapEdge, h1, h2]

/-- A mark that is due is made: it sets the note of the standing request, or raises DAMAGE when none stands; otherwise nothing happens
(R141). -/
theorem State.makeMarks_cases (s : State) :
    (s.frame.markDue = false ∧ s.makeMarks = s) ∨
      (s.frame.markDue = true ∧ ∃ q, s.frame.request = some q ∧
        s.makeMarks = { s with frame := { s.frame with markDue := false, request := some { q with damage := true } } }) ∨
      (s.frame.markDue = true ∧ s.frame.request = none ∧
        s.makeMarks = State.raise { s with frame := { s.frame with markDue := false } } .damage) := by
  unfold State.makeMarks
  cases h : s.frame.markDue with
  | false => exact .inl ⟨rfl, rfl⟩
  | true => cases hq : s.frame.request <;> simp [State.markDamage, hq]

/-- The timer reaching H is `State.reachHold`, with the release time H for a release that it meets at the same moment (R59). -/
theorem State.holdReached_cases (s : State) :
    (s.releasedAtHold = false ∧ s.holdReached = s.reachHold) ∨
      (s.releasedAtHold = true ∧ s.holdReached = { s.reachHold with barrier.releaseTime := s.holdLimit }) := by
  cases h : s.releasedAtHold <;> simp [State.holdReached, h]

/-- A confirmed rise is a swap edge, an electrical fault, an observed edge of a LISTENING station, or nothing (R64, R65). -/
theorem State.riseBlocks_cases (s : State) :
    s.riseBlocks = s.swapEdge ∨ s.riseBlocks = s.electricalFault ∨
      s.riseBlocks = { s with join.edgeCount := s.join.edgeCount + 1 } ∨ s.riseBlocks = s := by
  unfold State.riseBlocks
  split
  · split
    · exact .inl rfl
    · exact .inl rfl
    · split
      · exact .inr (.inl rfl)
      · exact .inr (.inr (.inr rfl))
    · exact .inr (.inr (.inr rfl))
  · exact .inl rfl
  · split
    · exact .inl rfl
    · exact .inr (.inr (.inl rfl))
  all_goals exact .inr (.inr (.inr rfl))

/-! ### `State.enterObserver` -/

@[simp] theorem State.enterObserver_resetHeld (s : State) (r : ObserverReason) : (s.enterObserver r).resetHeld = s.resetHeld := rfl
@[simp] theorem State.enterObserver_record (s : State) (r : ObserverReason) : (s.enterObserver r).record = s.record := rfl
@[simp] theorem State.enterObserver_digest (s : State) (r : ObserverReason) : (s.enterObserver r).digest = s.digest := rfl
@[simp] theorem State.enterObserver_station (s : State) (r : ObserverReason) :
    (s.enterObserver r).join.station = .observer := rfl
@[simp] theorem State.enterObserver_rx (s : State) (r : ObserverReason) : (s.enterObserver r).rx = s.rx := rfl
@[simp] theorem State.enterObserver_roster (s : State) (r : ObserverReason) : (s.enterObserver r).roster = s.roster := rfl
@[simp] theorem State.enterObserver_intake (s : State) (r : ObserverReason) : (s.enterObserver r).intake = s.intake := rfl
@[simp] theorem State.enterObserver_frame (s : State) (r : ObserverReason) : (s.enterObserver r).frame = s.frame := rfl
@[simp] theorem State.enterObserver_freeIndex (s : State) (r : ObserverReason) : (s.enterObserver r).freeIndex = s.freeIndex := rfl
@[simp] theorem State.enterObserver_pending (s : State) (r : ObserverReason) : (s.enterObserver r).pending = s.pending := rfl
@[simp] theorem State.enterObserver_transmission (s : State) (r : ObserverReason) :
    (s.enterObserver r).pub.transmission = none := rfl
@[simp] theorem State.enterObserver_queue (s : State) (r : ObserverReason) : (s.enterObserver r).pub.queue = [] := rfl
@[simp] theorem State.enterObserver_drive (s : State) (r : ObserverReason) : (s.enterObserver r).link.drive = .released := rfl
@[simp] theorem State.enterObserver_driverLow (s : State) (r : ObserverReason) :
    (s.enterObserver r).barrier.driverLow = false := rfl
@[simp] theorem State.enterObserver_fillTag (s : State) (r : ObserverReason) :
    (s.enterObserver r).barrier.fillTag = s.barrier.fillTag := rfl

/-! ### `State.carryOut` -/

/-- The pending outcome is carried out in three parts, after which it is cleared (R94). -/
theorem State.carryOut_cases (s : State) (delivered : Bool) :
    (s.rx.outcome = none ∧ s.carryOut delivered = s) ∨
    ∃ o, s.rx.outcome = some o ∧
      s.carryOut delivered =
        State.carryWelcome (State.carryContent (State.carryRoster { s with rx.outcome := none } o.identity o.roster) o.identity
          o.content) o delivered := by
  unfold State.carryOut
  cases h : s.rx.outcome with
  | none => exact .inl ⟨rfl, rfl⟩
  | some o => exact .inr ⟨o, rfl, rfl⟩

/-- The content part touches the intake queue, the missed list, the open-frame damage mark and the LOOK stage alone. -/
theorem State.carryContent_cases (s : State) (id : Identity) (c : ContentPart) :
    (c = .nothing ∧ s.carryContent id c = s) ∨
    (∃ e, c = .reserved e ∧ s.carryContent id c = s.accept id e) ∨
    (c = .noRoom ∧ s.join.station = .observer ∧ s.carryContent id c = { s with barrier.openDamage := true }) ∨
    (c = .noRoom ∧ s.join.station ≠ .observer ∧ s.carryContent id c = { s with rx := s.rx.addMissed id }) ∨
    (∃ tag l, c = .look tag l ∧ s.carryContent id c = { s with frame.stage := some (tag, l) }) := by
  cases c with
  | nothing => exact .inl ⟨rfl, rfl⟩
  | reserved e => exact .inr (.inl ⟨e, rfl, rfl⟩)
  | noRoom =>
    by_cases h : s.join.station = .observer
    · exact .inr (.inr (.inl ⟨rfl, h, by simp [State.carryContent, State.miss, h]⟩))
    · exact .inr (.inr (.inr (.inl ⟨rfl, h, by simp [State.carryContent, State.miss, h]⟩)))
  | look tag l => exact .inr (.inr (.inr (.inr ⟨tag, l, rfl, rfl⟩)))

/-- WELCOME pending is cleared, set, or left (R130, R157). -/
theorem State.carryWelcome_cases (s : State) (o : PendingOutcome) (delivered : Bool) :
    s.carryWelcome o delivered = { s with pub.welcomePending := false } ∨
    s.carryWelcome o delivered = { s with pub.welcomePending := true } ∨ s.carryWelcome o delivered = s := by
  unfold State.carryWelcome
  split
  · exact .inl rfl
  · split
    · exact .inr (.inl rfl)
    · exact .inr (.inr rfl)

end Sys2Proof.Machine
end

