-- ==== Sys2Proof/Laws/Truncation.lean ====
section
/-! SUPPORT. What a completion leaves to be taken back, what the events after it make of that, and what a truncation takes back and
leaves unchanged (R28). -/

namespace Sys2Proof.Machine

/-! ### Settling and what is kept of a completion -/

theorem State.tryFlip_undo (s : State) (x : Option Undo) :
    State.tryFlip { s with rx.undo := x } = { s.tryFlip with rx.undo := x } := by
  unfold State.tryFlip
  dsimp only
  split
  · split
    · rename_i q _ _ _
      cases q.damage <;> rfl
    · rfl
  · rfl

theorem State.beginCommit_undo (s : State) (x : Option Undo) :
    State.beginCommit { s with rx.undo := x } = { s.beginCommit with rx.undo := x } := by
  unfold State.beginCommit
  dsimp only
  split
  · split <;> rfl
  · rfl

theorem State.react_undo (s : State) (x : Option Undo) : State.react { s with rx.undo := x } = { s.react with rx.undo := x } := by
  have h1 : State.ready { s with rx.undo := x } = s.ready := rfl
  have h2 : State.holdLimit { s with rx.undo := x } = s.holdLimit := rfl
  unfold State.react
  rw [h1, h2]
  dsimp only
  split
  · rfl
  · split
    · rfl
    · split <;> rfl
    · split
      · rfl
      · split <;> rfl
    · split <;> rfl

theorem State.arbitrate_undo (s : State) (x : Option Undo) :
    State.arbitrate { s with rx.undo := x } = { s.arbitrate with rx.undo := x } := by
  have h : State.candidate { s with rx.undo := x } = s.candidate := rfl
  unfold State.arbitrate
  rw [h]
  dsimp only
  split
  · split <;> rfl
  · rfl

/-- The four responses neither read nor change what a truncation would take back. -/
theorem State.settleBlocks_undo (s : State) (x : Option Undo) :
    State.settleBlocks { s with rx.undo := x } = { s.settleBlocks with rx.undo := x } := by
  unfold State.settleBlocks
  rw [State.tryFlip_undo, State.beginCommit_undo, State.react_undo, State.arbitrate_undo]

/-- A completion is a classification, of which what it did at once is kept: the counts, the event flags, and the blocks when it changed
the Join Controller or the Barrier Unit (R28, R51). -/
theorem State.complete_eq (s : State) (r : Record) (h : s.record = some r) :
    ∃ t b, t = State.classify { s with link := { s.link with atSlot := true } } r s.pub.transmission.isSome ∧
      s.complete = { t with rx := { t.rx with undo := some { s.undoBeside t with blocks := b } } } ∧
      (b = none ↔ t.join = s.join ∧ t.barrier = s.barrier) := by
  unfold State.complete
  rw [h]
  dsimp only
  generalize ht : State.classify _ r s.pub.transmission.isSome = t
  exact ⟨t, _, rfl, rfl, by split <;> simp_all⟩

/-! ### `State.putBack` -/

@[simp] theorem State.putBack_resetHeld (s : State) (u : Undo) : (s.putBack u).resetHeld = s.resetHeld := by
  cases h : u.blocks <;> simp [State.putBack, State.putBackBlocks, h]

@[simp] theorem State.putBack_record (s : State) (u : Undo) : (s.putBack u).record = s.record := by
  cases h : u.blocks <;> simp [State.putBack, State.putBackBlocks, h]

@[simp] theorem State.putBack_digest (s : State) (u : Undo) : (s.putBack u).digest = s.digest := by
  cases h : u.blocks <;> simp [State.putBack, State.putBackBlocks, h]

@[simp] theorem State.putBack_link (s : State) (u : Undo) : (s.putBack u).link = s.link := by
  cases h : u.blocks <;> simp [State.putBack, State.putBackBlocks, h]

@[simp] theorem State.putBack_roster (s : State) (u : Undo) : (s.putBack u).roster = s.roster := by
  cases h : u.blocks <;> simp [State.putBack, State.putBackBlocks, h]

@[simp] theorem State.putBack_intake (s : State) (u : Undo) : (s.putBack u).intake = s.intake := by
  cases h : u.blocks <;> simp [State.putBack, State.putBackBlocks, h]

@[simp] theorem State.putBack_freeIndex (s : State) (u : Undo) : (s.putBack u).freeIndex = s.freeIndex := by
  cases h : u.blocks <;> simp [State.putBack, State.putBackBlocks, h]

@[simp] theorem State.putBack_pending (s : State) (u : Undo) : (s.putBack u).pending = s.pending := by
  cases h : u.blocks <;> simp [State.putBack, State.putBackBlocks, h]

@[simp] theorem State.putBack_rx (s : State) (u : Undo) : (s.putBack u).rx = { s.rx with undo := none } := by
  cases h : u.blocks <;> simp [State.putBack, State.putBackBlocks, h]

@[simp] theorem State.putBack_confirmed (s : State) (u : Undo) : (s.putBack u).barrier.confirmed = s.barrier.confirmed := by
  cases h : u.blocks <;> simp [State.putBack, State.putBackBlocks, h]

@[simp] theorem State.putBack_cadence (s : State) (u : Undo) : (s.putBack u).barrier.cadence = s.barrier.cadence := by
  cases h : u.blocks <;> simp [State.putBack, State.putBackBlocks, h]

@[simp] theorem State.putBack_transmission (s : State) (u : Undo) : (s.putBack u).pub.transmission = s.pub.transmission := by
  rcases u with ⟨-, -, -, -, -, -, _ | ⟨-, -, _ | -, -⟩⟩ <;> rfl

@[simp] theorem State.putBack_staging (s : State) (u : Undo) : (s.putBack u).pub.staging = s.pub.staging := by
  rcases u with ⟨-, -, -, -, -, -, _ | ⟨-, -, _ | -, -⟩⟩ <;> rfl

/-- The counts that a completion can change are taken back; the others stay. -/
@[simp] theorem State.putBack_counters (s : State) (u : Undo) :
    (s.putBack u).port.counters = { s.port.counters with
      forced := s.port.counters.forced - u.forced, stalls := s.port.counters.stalls - u.stalls,
      checkFails := s.port.counters.checkFails - u.checkFails, stale := s.port.counters.stale - u.stale } := by
  cases h : u.blocks <;> simp [State.putBack, State.putBackBlocks, h]

/-- Flags that the completion led to are lowered and flags that it kept away are raised, but for those that report a flip. -/
@[simp] theorem State.putBack_events (s : State) (u : Undo) :
    (s.putBack u).port.events = (s.port.events &&& ~~~(u.raised &&& Undo.flags)) ||| (u.owed &&& Undo.flags) := by
  cases h : u.blocks <;> simp [State.putBack, State.putBackBlocks, h]

/-- A completion that changed no block leaves all of them in a truncation. -/
theorem State.putBack_of_no_blocks (s : State) (u : Undo) (h : u.blocks = none) :
    (s.putBack u).join = s.join ∧ (s.putBack u).barrier = s.barrier ∧ (s.putBack u).pub = s.pub ∧ (s.putBack u).frame = s.frame := by
  simp [State.putBack, h]

/-- The blocks that a completion changed: the Join Controller; the Barrier Unit but for the confirmed level and the cadence record
(R67); the publish queue it emptied; and the flip request of an edge that only one of the two stations has taken. -/
theorem State.putBack_of_blocks (s : State) (u : Undo) (b : BlocksBefore) (h : u.blocks = some b) :
    (s.putBack u).join = b.join ∧
    (s.putBack u).barrier = { b.barrier with confirmed := s.barrier.confirmed, cadence := s.barrier.cadence } ∧
    (s.putBack u).pub = (match b.lost with
      | some q => { s.pub with queue := q.queue, stagingNext := q.stagingNext, held := q.held, welcomePending := q.welcomePending,
                               spaceWanted := q.spaceWanted }
      | none => s.pub) ∧
    (s.putBack u).frame = (match b.request with
      | .same => s.frame
      | .withdrawn => s.frame.withdrawRequest
      | .made q => s.frame.stand { q with heldCommit := q.heldCommit && s.intake.committing }) := by
  obtain ⟨raised, owed, forced, stalls, checkFails, stale, blocks⟩ := u
  obtain ⟨join, barrier, lost, request⟩ := b
  cases h
  exact ⟨rfl, rfl, by cases lost <;> rfl, by cases request <;> rfl⟩

@[simp] theorem FrameStore.stand_request (f : FrameStore) (q : FlipRequest) : (f.stand q).request = some q := rfl
@[simp] theorem FrameStore.withdrawRequest_request (f : FrameStore) : f.withdrawRequest.request = none := rfl

/-! ### A completion, events, and a truncation (R28) -/

/-- The flags of a station and of the one beside it: what is kept is their difference. -/
theorem events_putBack (t p : BitVec 11) :
    (((t &&& ~~~((t &&& ~~~p) &&& Undo.flags)) ||| ((p &&& ~~~t) &&& Undo.flags)) &&& Undo.flags) = p &&& Undo.flags := by
  ext i hi
  simp only [BitVec.getElem_and, BitVec.getElem_or, BitVec.getElem_not]
  cases t[i] <;> cases p[i] <;> cases Undo.flags[i] <;> rfl

/-- What an event has done to the station beside is what a truncation gives: after a completion that changed a block, and an event on
which the station acts by `f` and the station without the completion by `g`, taking the completion back gives the Join Controller, the
Barrier Unit but for the confirmed level and the cadence record, the counts, the flags and the publish queue of that station (R28). -/
theorem State.undoCompletion_beside (f g : State → State) (s : State) (u : Undo) (b : BlocksBefore) (hu : s.rx.undo = some u)
    (hb : u.blocks = some b) :
    ∃ q p, q = (s.beside f g).undoCompletion ∧ p = g s.undoCompletion ∧
      q.join = p.join ∧
      q.barrier = { p.barrier with confirmed := (f s).barrier.confirmed, cadence := (f s).barrier.cadence } ∧
      q.port.counters = { (f s).port.counters with
        forced := p.port.counters.forced, stalls := p.port.counters.stalls, checkFails := p.port.counters.checkFails,
        stale := p.port.counters.stale } ∧
      q.port.events &&& Undo.flags = p.port.events &&& Undo.flags ∧
      (b.lost.isSome → q.pub = { (f s).pub with
        queue := p.pub.queue, stagingNext := p.pub.stagingNext, held := p.pub.held, welcomePending := p.pub.welcomePending,
        spaceWanted := p.pub.spaceWanted }) ∧
      (b.lost = none → q.pub = (f s).pub) := by
  refine ⟨_, _, rfl, rfl, ?_⟩
  have h1 : s.undoCompletion = s.putBack u := by simp [State.undoCompletion, hu]
  rw [h1]
  generalize hp : g (s.putBack u) = p
  have h2 : s.beside f g =
      { f s with rx.undo := some ({ p.undoBeside (f s) with blocks := some (p.blocksBeside (f s) b.lost.isSome) }) } := by
    simp [State.beside, hu, hb, hp]
  rw [h2]
  generalize f s = t
  refine ⟨rfl, rfl, ?_, ?_, ?_, ?_⟩
  · simp [State.undoCompletion, State.undoBeside]
  · simp only [State.undoCompletion, State.putBack_events, State.undoBeside]
    exact events_putBack _ _
  · intro h
    simp [State.undoCompletion, State.putBack, State.putBackBlocks, State.blocksBeside, h]
  · intro h
    simp [State.undoCompletion, State.putBack, State.putBackBlocks, State.blocksBeside, h]

/-! ### `State.undoCompletion` and `State.truncate` -/

/-- What a completion did is taken back; with nothing kept of one, nothing happens (R28). -/
theorem State.undoCompletion_cases (s : State) :
    (s.rx.undo = none ∧ s.undoCompletion = s) ∨ ∃ u, s.rx.undo = some u ∧ s.undoCompletion = s.putBack u := by
  unfold State.undoCompletion
  cases h : s.rx.undo with
  | none => exact .inl ⟨rfl, rfl⟩
  | some u => exact .inr ⟨u, rfl, rfl⟩

@[simp] theorem State.undoCompletion_resetHeld (s : State) : s.undoCompletion.resetHeld = s.resetHeld := by
  rcases s.undoCompletion_cases with ⟨-, h⟩ | ⟨u, -, h⟩ <;> rw [h]
  simp

@[simp] theorem State.undoCompletion_record (s : State) : s.undoCompletion.record = s.record := by
  rcases s.undoCompletion_cases with ⟨-, h⟩ | ⟨u, -, h⟩ <;> rw [h]
  simp

@[simp] theorem State.undoCompletion_digest (s : State) : s.undoCompletion.digest = s.digest := by
  rcases s.undoCompletion_cases with ⟨-, h⟩ | ⟨u, -, h⟩ <;> rw [h]
  simp

@[simp] theorem State.undoCompletion_link (s : State) : s.undoCompletion.link = s.link := by
  rcases s.undoCompletion_cases with ⟨-, h⟩ | ⟨u, -, h⟩ <;> rw [h]
  simp

@[simp] theorem State.undoCompletion_roster (s : State) : s.undoCompletion.roster = s.roster := by
  rcases s.undoCompletion_cases with ⟨-, h⟩ | ⟨u, -, h⟩ <;> rw [h]
  simp

@[simp] theorem State.undoCompletion_intake (s : State) : s.undoCompletion.intake = s.intake := by
  rcases s.undoCompletion_cases with ⟨-, h⟩ | ⟨u, -, h⟩ <;> rw [h]
  simp

@[simp] theorem State.undoCompletion_freeIndex (s : State) : s.undoCompletion.freeIndex = s.freeIndex := by
  rcases s.undoCompletion_cases with ⟨-, h⟩ | ⟨u, -, h⟩ <;> rw [h]
  simp

@[simp] theorem State.undoCompletion_pending (s : State) : s.undoCompletion.pending = s.pending := by
  rcases s.undoCompletion_cases with ⟨-, h⟩ | ⟨u, -, h⟩ <;> rw [h]
  simp

@[simp] theorem State.undoCompletion_rx (s : State) : s.undoCompletion.rx = { s.rx with undo := none } := by
  rcases s.undoCompletion_cases with ⟨hu, h⟩ | ⟨u, -, h⟩ <;> rw [h]
  · rw [← hu]
  · simp

@[simp] theorem State.undoCompletion_cadence (s : State) : s.undoCompletion.barrier.cadence = s.barrier.cadence := by
  rcases s.undoCompletion_cases with ⟨-, h⟩ | ⟨u, -, h⟩ <;> rw [h]
  simp

@[simp] theorem State.undoCompletion_transmission (s : State) : s.undoCompletion.pub.transmission = s.pub.transmission := by
  rcases s.undoCompletion_cases with ⟨-, h⟩ | ⟨u, -, h⟩ <;> rw [h]
  simp

@[simp] theorem State.undoCompletion_staging (s : State) : s.undoCompletion.pub.staging = s.pub.staging := by
  rcases s.undoCompletion_cases with ⟨-, h⟩ | ⟨u, -, h⟩ <;> rw [h]
  simp

/-- A truncation is the taking back of a completion, and the Link Unit and the count of the truncation (R28). -/
theorem State.truncate_eq (s : State) :
    s.truncate = State.count { State.undoCompletion { s with rx.outcome := none } with
      link := { s.link with bitOpen := false, atSlot := false, refuse := false, drive := .released } } .truncated := by
  simp [State.truncate]

@[simp] theorem State.truncate_rx (s : State) : s.truncate.rx = { s.rx with outcome := none, undo := none } := by
  simp [State.truncate]

@[simp] theorem State.truncate_link (s : State) :
    s.truncate.link = { s.link with bitOpen := false, atSlot := false, refuse := false, drive := .released } := by
  simp [State.truncate]

/-- A truncation leaves the cadence record, which changes only at swap edges and resets (R67). -/
@[simp] theorem State.truncate_cadence (s : State) : s.truncate.barrier.cadence = s.barrier.cadence := by simp [State.truncate]
@[simp] theorem State.truncate_resetHeld (s : State) : s.truncate.resetHeld = s.resetHeld := by simp [State.truncate]
@[simp] theorem State.truncate_record (s : State) : s.truncate.record = s.record := by simp [State.truncate]
@[simp] theorem State.truncate_digest (s : State) : s.truncate.digest = s.digest := by simp [State.truncate]
@[simp] theorem State.truncate_roster (s : State) : s.truncate.roster = s.roster := by simp [State.truncate]
@[simp] theorem State.truncate_intake (s : State) : s.truncate.intake = s.intake := by simp [State.truncate]
@[simp] theorem State.truncate_freeIndex (s : State) : s.truncate.freeIndex = s.freeIndex := by simp [State.truncate]
@[simp] theorem State.truncate_pending (s : State) : s.truncate.pending = s.pending := by simp [State.truncate]

end Sys2Proof.Machine
end

