-- ==== Sys2Proof/Tests/Slice0.lean ====
section
/-! SUPPORT. Tests: the refusals of WellFormed, the worked values of the manual, and for each statement with hypotheses a concrete
state and operands that meet them, clause by clause at the boundaries. Every expected value is the manual's or a hand calculation
from it. -/

namespace Sys2Proof.Tests

-- One test after the other: a test that the kernel evaluates waits for every theorem before it.
set_option Elab.async false

open Sys2Proof Sys2Proof.Machine Sys2Proof.Safety

/-! ## Small states -/

/-- A 16 × 16 panel at (16, 0) of a 64 × 32 canvas, P = 80, H = 160, carry modes CARRY and CLEAR. -/
def record : Record :=
  { station := 3, orientation := .n, canvasWidth := 64, canvasHeight := 32, originX := 16, originY := 0, columns := 16, rows := 16,
    lineTime := 20, framePeriod := 80, holdMultiple := 2, bitRate := .mbit4, baseMode := .carry, overlayMode := .clear }

/-- A station in a state of its own with the test record, the scan running at row 0, its port in the COMMAND phase, otherwise as
after reset. -/
def station (st : StationState) : State :=
  { State.reset with
    record := some record, digest := some (crc record.wallBytes), join := { Join.reset with station := st },
    frame := { FrameStore.reset with scan := some { row := 0, base := .a, overlay := .a } },
    port := { Port.reset with psel := .low, phase := .command } }

/-- A MEMBER in FILLING with fill tag 5, its frame timer running at `n`. -/
def member (n : Nat := 0) : State :=
  { station .member with
    barrier := { Barrier.reset with phase := some .filling, driverLow := true, timer := n, timerRunning := true, fillTag := some 5,
                                    confirmed := some .low } }

/-- A LISTENING station whose welcome wait stands at `n`. -/
def listening (n : Nat) : State :=
  { station .listening with join := { Join.reset with station := .listening, budget := 3, welcomeWait := some n } }

/-- A JOINING station with its JOIN pending and `b` units of budget. -/
def joining (b : Nat) : State :=
  { station .joining with join := { Join.reset with station := .joining, budget := b, joinPending := true } }

/-- An OBSERVER without a tag. -/
def observer : State :=
  { station .observer with
    join := { Join.reset with station := .observer, reason := some .refused }, barrier := { Barrier.reset with timerRunning := true } }

/-- A station taking in a burst with these bytes before the check, at the bit period of its last bit. -/
def atLastBit (s : State) (bs : List Byte) : State :=
  { s with
    link := { Link.reset with view := .burst, bitOpen := true }
    rx := { s.rx with body := bs, check := [(crc bs).extractLsb' 8 8], shift := (crc bs).extractLsb' 0 8 >>> 1, bitCount := 7,
                      received := bs.length + 1, bodyLength := some (bs.length - 2), running := crc bs } }

/-- The level of the last check bit of a burst. -/
def lastLevel (bs : List Byte) : Level := if (crc bs).getLsbD 0 then .high else .low

/-- A request in transmission from the head of the queue. -/
def sending (s : State) (q : Request) (rest : List Request) (t : Transmission) : State :=
  { s with pub := { s.pub with queue := q :: rest, transmission := some t } }

/-- A transmission of a request, with its two marks. -/
def ofRequest (edgeSeen flush : Bool) : Transmission :=
  { source := .request, bytes := [0x43, 0x50, 0x1F, 0x65], tag := some 5, edgeSeen := edgeSeen, flush := flush }

/-- END from station 9 under tag 5, before its check. -/
def endBurst : List Byte := [0x49, 0x50]

/-- The state that a step answers. -/
def after (o : Host.Outcome State Fault Refusal) : State :=
  match o with
  | .next t => t
  | _ => State.reset

/-- The 20 bytes of the test record. -/
def recordParams : List Byte := [3, 0, 0, 64, 0, 32, 0, 16, 0, 0, 16, 16, 0, 20, 0, 80, 2, 2, 1, 2]

/-- A PUT STRIPE of 2 × 1 IDX8 pixels at (16, 0) on the overlay. -/
def stripeParamBytes : List Byte := [1, 0, 0, 16, 0, 0, 0, 2, 1, 0, 7]

/-- A PUT FILL of 64 × 32, the whole canvas, in (63, 0, 63). -/
def fillParamBytes : List Byte := [0, 0, 0, 0, 0, 0, 0, 64, 0, 32, 63, 0, 63]

/-- A PUT PALETTE of one colour at the last index. -/
def paletteParamBytes : List Byte := [255, 1, 1, 2, 63]

/-! ## WellFormed refuses each ill-formed command -/

theorem test_wellFormed_setEventMask : Instr.wellFormed (.setEventMask [0]) = false := by decide
theorem test_wellFormed_configure : Instr.wellFormed (.configure (recordParams.drop 1)) = false := by decide
theorem test_wellFormed_putStripe : Instr.wellFormed (.putStripe (stripeParamBytes ++ [0])) = false := by decide
theorem test_wellFormed_putFill : Instr.wellFormed (.putFill (fillParamBytes.drop 1)) = false := by decide
theorem test_wellFormed_putPalette : Instr.wellFormed (.putPalette (paletteParamBytes ++ [0])) = false := by decide
theorem test_wellFormed_putLook : Instr.wellFormed (.putLook [1, 0]) = false := by decide
theorem test_wellFormed_unknownCommand : Instr.wellFormed (.unknownCommand 0x26) = false := by decide
theorem test_wellFormed_pselRise : Instr.wellFormed (.pselRise 8) = false := by decide

/-! ## The manual's worked values -/

/-- 03, section 3.5: END from station 3 with tag 5 is 43h, 50h, 1Fh, 65h on the bus. -/
theorem test_end_of_station_3 : withCheck (RequestBody.endFrame.bytes 3 5 []) = [0x43, 0x50, 0x1F, 0x65] := by decide +kernel

/-- 03, section 3.3: the 24-bit packing of x = 280 and y = 10, and of a STRIPE of 16 × 4. -/
theorem test_packings : pack12 280 10 = [0x11, 0x80, 0x0A] ∧ packStripeSize 16 4 = [0x07, 0x98] := by decide +kernel

/-- 11, section 11.1: the arbitration fields of END from 4 and of STRIPE from 8. -/
theorem test_arbitrationFields : arbitrationField .endFrame 4 = 0x44 ∧ arbitrationField .stripe 8 = 0xE8 := by decide

/-- 01, section 1.6: F81Fh expands to (63, 0, 63) and 8410h to (33, 32, 33). -/
theorem test_rgb565 :
    expand [] (.rgb565 0xF81F) = ⟨63, 0, 63⟩ ∧ expand [] (.rgb565 0x8410) = ⟨33, 32, 33⟩ := by decide +kernel

/-- 01, the stripe on a turned tile: (280, 10) is at panel (10, 7), (287, 10) at (10, 0), and (288, 10) is passed over. -/
theorem test_turned_tile :
    let r : Record := { record with orientation := .r90, canvasWidth := 384, canvasHeight := 128, originX := 192, columns := 128, rows := 96 }
    r.addressOf 280 10 = some (7 * 128 + 10) ∧ r.addressOf 287 10 = some 10 ∧ r.addressOf 288 10 = none := by decide +kernel

/-- 11, section 11.2: the commit of a 64 × 8 STRIPE takes 20.68 µs; section 11.1: an END of four bytes takes 8.5 µs at 4 Mbit/s. -/
theorem test_commit_times :
    Content.commitTime { record with columns := 64, originX := 0 } (.stripe .base .idx8 ⟨0, 0, 64, 8⟩ []) = 2068 ∧
    burstBitPeriods 4 * BitRate.periodNs .mbit4 = 8500 := by decide +kernel

/-- 10, section 10.11: a PUT STRIPE of 40 × 16 has nine parameter bytes and is ILLEGAL; one of 40 × 8 has 329. -/
theorem test_stripe_shape :
    stripeParams [0, 0, 0, 0, 0, 0, 0, 40, 16] = 9 ∧ stripeParams [0, 0, 0, 0, 0, 0, 0, 40, 8] = 329 ∧
    (after (exec (.putStripe [0, 0, 0, 0, 0, 0, 0, 40, 16]) (member))).port.response = [0x02] := by decide +kernel

/-- 04, R66: an edge from READY at timer 100 advances the tag, records the interval, and restarts the timer. -/
theorem test_edge :
    let s : State := { member 100 with barrier := { (member 100).barrier with phase := some .ready, driverLow := false } }
    let t := after (exec .confirmedRise s)
    t.barrier.fillTag = some 6 ∧ t.barrier.cadence.interval = 100 ∧ t.barrier.timer = 0 ∧ t.port.counters.swaps = 1 := by
  decide +kernel

/-- 05, section 5.14: with 16 entries, the LAGGARD of silence 5 nearest the front is evicted, and the newcomer is the last. -/
theorem test_eviction :
    let entry (n : Nat) : RosterEntry :=
      { station := BitVec.ofNat 5 n, state := if n = 2 ∨ n = 8 ∨ n = 11 then .laggard else .idle,
        overdue := if n = 2 ∨ n = 8 ∨ n = 11 then 3 else 0, silence := if n = 2 ∨ n = 8 then 5 else if n = 11 then 2 else 0,
        heard := false }
    let c := rosterOnBurst ((List.range 16).map entry) 25 .stripe
    (c.roster.map RosterEntry.station).take 3 = [0, 1, 3] ∧ (c.roster.getLast?).map RosterEntry.station = some 25 ∧
      c.event = true ∧ c.overflow = false := by decide +kernel

/-- 02, the refused burst: a MEMBER stretches the slot of a burst whose check fails, and counts one refusal. -/
theorem test_stretch :
    let s := atLastBit (member) endBurst
    let bad : Level := if lastLevel endBurst = .high then .low else .high
    let t := after (exec .bitPeriodStart (after (exec (.completion bad) s)))
    t.link.drive = .stretch ∧ t.port.counters.refusalsSent = 1 ∧ t.port.counters.checkFails = 1 := by decide +kernel

/-- 09, section 11.7: with WLS never seen low, the welcome wait ends in founding with tag 0. -/
theorem test_founding :
    let t := after (exec .welcomeWait (listening 159))
    t.join.station = .member ∧ t.barrier.fillTag = some 0 ∧ t.barrier.driverLow = true ∧ t.port.events = 0x080 := by decide +kernel

/-! ## The hypotheses of the statements can be met -/

theorem test_witness_IdleStepCountsTheTimers :
    (member).pending = [] ∧ (member).record = some record ∧ record.valid = true ∧ (member).barrier.timerRunning = true ∧
    (member).join.welcomeWait = none ∧ (member 65535).barrier.timer = 65535 ∧ (member 79).barrier.timer + 1 = 80 ∧
    (member 159).barrier.timer + 1 = 2 * 80 ∧
    (member 159).barrier.phase ≠ some .ready ∧ (member 159).react.barrier.phase = some .ready ∧ (member 239).barrier.timer + 1 = 2 * 80 + 80 ∧
    (listening 158).barrier.timerRunning = false ∧ (listening 158).join.welcomeWait = some 158 ∧ 158 + 1 < 2 * 80 ∧
    (listening 159).join.welcomeWait = some 159 ∧ 2 * 80 ≤ 159 + 1 ∧ (station .configured).barrier.timerRunning = false ∧
    (station .configured).join.welcomeWait = none := by decide +kernel

theorem test_witness_StartUpReachesUnconfigured :
    (State.reset.hardReset).resetHeld = true ∧ (State.reset.hardReset).port.psel = .high ∧
    (State.hardReset (station .member)).port.psel = .low ∧ (State.hardReset (station .member)).resetHeld = true ∧
    State.reset.resetHeld = false ∧ State.reset.join.station = .starting := by decide +kernel

theorem test_witness_SoftResetKeepsAndResets :
    (member).port.phase = .command ∧ (member).intake.committing = false ∧ (member).frame.baseState ≠ .preparing ∧
    (member).frame.overlayState ≠ .preparing ∧ (member).record = some record := by decide +kernel

/-- A MEMBER whose engine is committing this content, with a preparation pass of the overlay running. -/
def busy (c : Content) : State :=
  { member with intake := { queue := [⟨5, c⟩], committing := true, palette := [] }
                frame := { (member).frame with overlayState := .preparing } }

theorem test_witness_SoftResetKeepsAndResets_busy :
    let c : Content := .stripe .base .idx8 ⟨16, 0, 2, 1⟩ [.idx8 7, .idx8 0]
    (busy c).port.phase = .command ∧ StoresWf (busy c) ∧ (busy c).record = some record ∧ (busy c).intake.committing = true ∧
    (busy c).intake.queue.head?.map IntakeEntry.content = some c ∧ (busy c).frame.overlayState = .preparing ∧
    record.addressOf (16 + 1 % 2) (0 + 1 / 2) = some 1 ∧ record.overlayMode = .clear := by decide +kernel

theorem test_witness_PselEdgesBeginAndEndTransactions :
    State.reset.resetHeld = false ∧ State.reset.port.phase = .deselected ∧ (State.hardReset (member)).resetHeld = true ∧
    (State.hardReset (member)).port.phase = .waitHigh ∧ (member).port.phase = .command ∧ (member).resetHeld = false ∧
    (taken (member) [0x24] [0x00]).port.phase = .response ∧
    (after (exec (.putLook [1, 0]) (member))).port.phase = .parameters ∧ State.reset.port.psel = .high ∧ (member).port.psel = .low ∧
    (State.hardReset (member)).port.psel = .low := by decide +kernel

/-- 00, section 4.6: a hard reset that comes with PSEL# low puts PDO at high impedance until it ends. -/
theorem test_pdo_held :
    let t := after (exec .hardReset (member))
    t.port.psel = .low ∧ t.pdo 0 = none ∧ (after (exec .hardResetEnd t)).port.phase = .waitHigh := by decide +kernel

/-- 10, R170: after SET EVENT MASK is answered ILLEGAL, 02h, the seventh bit out is the only ONE, and zero bits follow. -/
theorem test_pdo :
    let t := after (exec (.setEventMask [0xFF, 0]) (member))
    (List.range 10).map t.pdo =
      [some false, some false, some false, some false, some false, some false, some true, some false, some false, some false] := by
  decide +kernel

theorem test_witness_PortCommandsNeedAWholeTransaction :
    Instr.wellFormed (.putLook [1, 0, 15]) = true ∧ Instr.portBytes (.putLook [1, 0, 15]) = 0x23 :: [1, 0, 15] ∧
    Instr.wellFormed (.unknownCommand 0x27) = true ∧
    Instr.readStatus.portBytes ≠ [] ∧ State.reset.port.phase ≠ .command ∧ (member).port.phase = .command ∧
    ([0] : List Byte).length < 2 ∧ (recordParams.drop 1).length < 20 ∧ (stripeParamBytes.drop 3).length < stripeParams (stripeParamBytes.drop 3) ∧
    (fillParamBytes.drop 1).length < 13 ∧ ([0, 16, 0] : List Byte).length < paletteParams [0, 16, 0] ∧ ([1, 0] : List Byte).length < 3 := by
  decide +kernel

theorem test_witness_UnlistedCommandsAnswerStateOrUnknown :
    observer.port.phase = .command ∧ observer.join.station ≠ .unconfigured ∧ observer.join.station ≠ .configured ∧
    recordParams.length = 20 ∧ (station .unconfigured).join.station = .unconfigured ∧ ¬ TakesContent observer.join.station ∧
    stripeParamBytes.length = stripeParams stripeParamBytes ∧ fillParamBytes.length = 13 ∧
    paletteParamBytes.length = paletteParams paletteParamBytes ∧ (0x27 : Byte) ∉ commandCodes := by decide +kernel

theorem test_witness_ReadsReturnTheRecords :
    (member).port.phase = .command ∧ ∀ e ∈ ([⟨4, .laggard, 3, 7, true⟩, ⟨8, .idle, 2, 0, false⟩] : List RosterEntry), EntryLegal e := by
  decide +kernel

theorem test_witness_CountersAndEvents :
    (member).port.phase = .command ∧ Counter.swaps ≠ Counter.forced ∧ 10 < 11 ∧
    ({ Counters.zero with swaps := 0xFFFF } : Counters).get .swaps = 65535 := by decide +kernel

theorem test_witness_EventMaskGovernsPatn :
    (member).port.phase = .command ∧ (7 : Byte).toNat < 8 ∧ 8 ≤ (8 : Byte).toNat := by decide +kernel

theorem test_witness_ConfigureChecksAndReplacesTheRecord :
    (station .unconfigured).port.phase = .command ∧ (station .unconfigured).join.station = .unconfigured ∧
    (station .configured).join.station = .configured ∧ recordParams.length = 20 ∧ recordOf recordParams = some record ∧
    recordOf (recordParams.set 10 15) = none := by decide +kernel

theorem test_witness_ConfigureChecksAndReplacesTheRecord_abandoned :
    let s := after (exec (.completion (lastLevel endBurst)) (atLastBit (station .configured) endBurst))
    s.port.phase = .command ∧ s.join.station = .configured ∧ s.rx.undo = some ⟨0, 0, 0, 0, 0, 1, none⟩ := by decide +kernel

theorem test_witness_RecordBytesRoundTrip :
    record.valid = true ∧ record.bytes = recordParams ∧ recordParams.length = 20 ∧ recordOf recordParams = some record := by
  decide +kernel

theorem test_witness_ReadConfigReturnsTheConfigureBytes :
    let s := station .unconfigured
    let t1 := after (exec (.configure recordParams) s)
    let t2 := after (exec (.pselRise 0) t1)
    let t3 := after (exec .pselFall t2)
    (exec (.configure recordParams) s = .next t1 ∧ exec (.pselRise 0) t1 = .next t2 ∧ exec .pselFall t2 = .next t3) ∧
    s.port.phase = .command ∧ s.resetHeld = false ∧ (recordOf recordParams).isSome ∧ t3.port.phase = .command ∧
    t3.record = some record ∧ t3.join.station = .configured ∧ t3.digest = some (crc record.wallBytes) :=
  ⟨⟨rfl, rfl, rfl⟩, by decide +kernel⟩

theorem test_witness_StartBeginsTheJoin :
    (station .configured).port.phase = .command ∧ (station .configured).join.station = .configured ∧
    (station .configured).record = some record ∧ (station .configured).frame.request = none := by decide +kernel

theorem test_witness_RequestsWithoutPayloadAreQueued :
    let s : State := { member with pub := { Publisher.reset with queue := List.replicate 15 ⟨.endFrame, 0⟩ } }
    s.port.phase = .command ∧ TakesContent s.join.station ∧ s.pub.queue.length = 15 ∧ s.pub.placesUsed ≤ 4096 ∧
    (1 : Byte).toNat ≤ 1 ∧ (15 : Byte).toNat ≤ 15 ∧ fillParamBytes.length = 13 ∧ natAt fillParamBytes 0 ≤ 1 ∧
    natAt fillParamBytes 1 ≤ 1 ∧ wordAt fillParamBytes 2 + wordAt fillParamBytes 6 = 64 ∧
    wordAt fillParamBytes 4 + wordAt fillParamBytes 8 = 32 ∧ natAt fillParamBytes 10 ≤ 63 ∧ natAt fillParamBytes 11 ≤ 63 ∧
    natAt fillParamBytes 12 ≤ 63 ∧ s.record = some record := by decide +kernel

/-- A queue of eight payloads of 512 pixels but one: one place of the staging store is free. -/
def nearlyFull : List Request :=
  (List.range 7).map (fun i => ⟨.stripe .base .idx8 ⟨0, 0, 32, 16⟩ (512 * i), 0⟩) ++ [⟨.stripe .base .idx8 ⟨0, 0, 73, 7⟩ 3584, 0⟩]

theorem test_witness_PayloadsAreStagedWhole :
    let s : State := { member with pub := { Publisher.reset with queue := nearlyFull, stagingNext := 4095 } }
    s.port.phase = .command ∧ TakesContent s.join.station ∧ s.record = some record ∧
    Memory.wf (RawPixel.idx8 0) s.pub.staging ∧ s.pub.queue.length < 16 ∧ stripeParamBytes.length = stripeParams stripeParamBytes ∧
    wordAt stripeParamBytes 6 = 2 ∧ natAt stripeParamBytes 8 = 1 ∧ (station .joining).pub.placesUsed = 0 ∧
    paletteParamBytes.length = paletteParams paletteParamBytes ∧ natAt paletteParamBytes 0 + natAt paletteParamBytes 1 = 256 ∧
    natAt paletteParamBytes 1 + s.pub.placesUsed = 4096 ∧ (∀ b ∈ paletteParamBytes.drop 2, b.toNat ≤ 63) := by decide +kernel

theorem test_witness_PayloadsAreStagedWhole_runs :
    OneRun { Publisher.reset with queue := nearlyFull, stagingNext := 4095 } := by
  refine ⟨0, ?_⟩
  simp [runsFrom, nearlyFull, List.range, List.range.loop]

theorem test_witness_ContentCommandsTurnedAway :
    let s : State := { member with pub := { Publisher.reset with queue := List.replicate 16 ⟨.endFrame, 0⟩ } }
    let u : State := { member with pub := { Publisher.reset with queue := nearlyFull, stagingNext := 4095 } }
    s.port.phase = .command ∧ TakesContent s.join.station ∧ s.record = some record ∧ s.pub.queue.length = 16 ∧
    (lookBody [1, 0, 15]).isSome ∧ (s.fillBody fillParamBytes).isSome ∧ (s.stripeBody stripeParamBytes).isSome ∧
    (paletteBody paletteParamBytes).isSome ∧ 4096 < u.pub.placesUsed + wordAt stripeParamBytes 6 * natAt stripeParamBytes 8 ∧
    ¬ natAt [1, 0, 16] 2 ≤ 15 ∧ ¬ natAt (fillParamBytes.set 10 64) 10 ≤ 63 ∧
    (stripeParamBytes.set 8 17).take 9 = [1, 0, 0, 16, 0, 0, 0, 2, 17] ∧ stripeParams [1, 0, 0, 16, 0, 0, 0, 2, 17] = 9 ∧
    paletteParams [0, 17] = 2 := by decide +kernel

theorem test_witness_ContentCommandsTurnedAway_settled :
    Settled { member with pub := { Publisher.reset with queue := List.replicate 16 ⟨.endFrame, 0⟩ } } ∧
    Settled { member with pub := { Publisher.reset with queue := nearlyFull, stagingNext := 4095 } } := by
  refine ⟨⟨?_, ?_, ?_, ?_, ?_, ?_⟩, ?_, ?_, ?_, ?_, ?_, ?_⟩ <;> decide +kernel

theorem test_witness_EndFrameWithdrawAndFlushQueueAnswers_settled : Settled (member) ∧ WallWf (member) := by
  refine ⟨⟨?_, ?_, ?_, ?_, ?_, ?_⟩, ⟨⟨?_, ?_, ?_⟩, ?_, ?_, ?_, ?_, ?_, ?_, ⟨?_, ?_, ?_⟩⟩, ?_⟩
  rotate_right 2
  · intro o ho
    cases ho
  · intro u hu
    cases hu
  all_goals decide +kernel

theorem test_witness_EndFrameWithdrawAndFlushQueueAnswers :
    let s : State := { member with pub := { Publisher.reset with queue := List.replicate 16 ⟨.endFrame, 0⟩ } }
    s.port.phase = .command ∧ TakesContent s.join.station ∧ s.pub.queue.length ≤ 16 ∧ s.pub.placesUsed ≤ 4096 ∧
    (member).pub.queue = [] ∧ s.pub.queue ≠ [] ∧ s.pub.sendingRequest = false ∧
    (sending (member) ⟨.withdraw, 0⟩ [] (ofRequest false false)).pub.queue = [⟨.withdraw, 0⟩] ∧
    (ofRequest false false).source = .request := by decide +kernel

theorem test_witness_RequestOutcomes :
    let s := sending (member) ⟨.endFrame, 3⟩ [⟨.withdraw, 0⟩] (ofRequest true false)
    s.pub.transmission = some (ofRequest true false) ∧ (ofRequest true false).source = .request ∧
    s.pub.queue = ⟨.endFrame, 3⟩ :: [⟨.withdraw, 0⟩] ∧ (ofRequest true false).edgeSeen = true ∧ (RequestBody.endFrame ≠ .withdraw) ∧
    (ofRequest false true).flush = true ∧ (ofRequest false false).flush = false ∧ 2 < 3 := by decide +kernel

theorem test_witness_JoinAndWelcomeOutcomes :
    let t : Transmission := { source := .join, bytes := joinBytes 3 0, tag := none, edgeSeen := false, flush := false }
    let s (b : Nat) : State := { joining b with pub := { Publisher.reset with transmission := some t } }
    (s 1).pub.transmission = some t ∧ t.source = .join ∧ (s 1).join.station = .joining ∧ (s 1).join.joinPending = true ∧
    (s 1).join.budget = 1 ∧ 2 ≤ (s 2).join.budget := by decide +kernel

/-- A transmission of a WELCOME under tag 5. -/
def ofWelcome : Transmission := { source := .welcome, bytes := welcomeBytes 3 5, tag := some 5, edgeSeen := false, flush := false }

theorem test_witness_JoinAndWelcomeOutcomes_welcome :
    ({ member with pub := { Publisher.reset with transmission := some ofWelcome, welcomePending := true } } : State).pub.transmission =
      some ofWelcome ∧ ofWelcome.source = .welcome := by decide +kernel

theorem test_witness_ArbiterRanksTheCandidates :
    let s : State := { member with link := { Link.reset with view := .idle },
                                   pub := { Publisher.reset with queue := [⟨.endFrame, 0⟩] } }
    let j : State := { joining 4 with link := { Link.reset with view := .opening } }
    let w : State := { s with pub := { s.pub with welcomePending := true } }
    s.record = some record ∧ s.link.view = .idle ∧ s.pub.transmission = none ∧ s.join.station = .member ∧
    s.barrier.fillTag = some 5 ∧ s.pub.welcomePending = false ∧ s.pub.held = false ∧ s.pub.queue = [⟨.endFrame, 0⟩] ∧
    j.join.station = .joining ∧ j.join.joinPending = true ∧ j.digest = some (crc record.wallBytes) ∧ j.link.view = .opening ∧
    w.pub.welcomePending = true ∧ (member).pub.queue = [] ∧ (member).link.view = .off ∧
    (station .member).barrier.fillTag = none ∧ s.barrier.fillTag ≠ none ∧
    (sending (member) ⟨.endFrame, 0⟩ [] (ofRequest false false)).pub.sendingRequest = true ∧ s.pub.sendingRequest = false ∧
    ({ s with pub := { s.pub with held := true } } : State).pub.held = true ∧ observer.join.station ≠ .joining ∧ observer.join.station ≠ .member := by decide +kernel

theorem test_witness_QueuedRequestsAreWellFormedBursts :
    Rect.fits ⟨4095, 4095, 1, 1⟩ 4096 4096 = true ∧ Rect.fits ⟨0, 0, 512, 1⟩ 4096 4096 = true ∧ 512 * 1 ≤ 512 ∧
    (List.replicate 512 (RawPixel.idx8 255)).length = 512 * 1 ∧ 240 + (List.replicate 16 Color.black).length = 256 := by
  decide +kernel

theorem test_witness_BusIdleAndStartPeriodOpenABurst :
    let s (v : BusView) (x : Bool) : State := { member with link := { Link.reset with view := v, atSlot := x } }
    (s .waiting false).link.view = .waiting ∧ (s .idle false).link.view = .idle ∧ (s .burst false).link.view = .burst ∧
    (s .burst false).pub.transmission = none ∧ (s .burst false).link.atSlot = false ∧ (s .burst true).link.bitOpen = false ∧
    (s .burst true).rx.undo = none := by
  decide +kernel

/-- What a truncation takes back: the counts alone after a check that failed, and the blocks after an adoption, a WELCOME, a mismatch and
a duplicate, of which the last has lost the queue as well. -/
theorem test_witness_BusIdleAndStartPeriodOpenABurst_undo :
    let w : List Byte := [0x29, 0xF0]
    let d : List Byte := [0x43, 0x50]
    let j : List Byte := [0x09, 0x00, 0x00, 0x00]
    let bad : Level := if lastLevel endBurst = .high then .low else .high
    let blocks (s : State) (bs : List Byte) (l : Level) : Option BlocksBefore :=
      (after (exec (.completion l) (atLastBit s bs))).rx.undo.bind Undo.blocks
    let lost : LostQueue := { queue := [], stagingNext := 0, held := false, welcomePending := false, spaceWanted := false }
    (after (exec (.completion bad) (atLastBit (member) endBurst))).rx.undo = some ⟨0, 0, 0, 0, 1, 0, none⟩ ∧
    blocks observer endBurst (lastLevel endBurst) = some ⟨observer.join, observer.barrier, none, .same⟩ ∧
    blocks (listening 7) w (lastLevel w) = some ⟨(listening 7).join, Barrier.reset, none, .same⟩ ∧
    blocks (member) j (lastLevel j) = some ⟨(member).join, (member).barrier, none, .same⟩ ∧
    blocks (joining 4) d (lastLevel d) = some ⟨(joining 4).join, Barrier.reset, some lost, .same⟩ := by decide +kernel

theorem test_witness_BusIdleAndStartPeriodOpenABurst_truncated :
    let j : List Byte := [0x09, 0x00, 0x00, 0x00]
    let s := atLastBit (member) j
    (WallWf s ∧ Settled s) ∧ CanComplete s (lastLevel j) ∧ s.pub.transmission = none ∧ s.barrier.fillTag ≠ none := by
  refine ⟨⟨⟨⟨⟨?_, ?_, ?_⟩, ?_, ?_, ?_, ?_, ?_, ?_, ⟨?_, ?_, ?_⟩⟩, ?_⟩, ?_, ?_, ?_, ?_, ?_, ?_⟩, ?_, ?_, ?_⟩
  case refine_12 => intro o ho; cases ho
  case refine_13 => intro u hu; cases hu
  all_goals decide +kernel

/-- 02, R28 and section 2.4: a burst complete to its check whose slot does not come counts TRUNCATED and leaves no mismatch, no
DUPLICATE, no tag taken from a WELCOME, and no CHECK_FAILS behind. -/
theorem test_truncation :
    let cut (s : State) (bs : List Byte) (l : Level) : State := after (exec .busIdle (after (exec (.completion l) (atLastBit s bs))))
    let w : List Byte := [0x29, 0xF0]
    let d : List Byte := [0x43, 0x50]
    let j : List Byte := [0x09, 0x00, 0x00, 0x00]
    let bad : Level := if lastLevel endBurst = .high then .low else .high
    let a := cut (member) j (lastLevel j)
    let b := cut (member 7) d (lastLevel d)
    let c := cut (listening 7) w (lastLevel w)
    a.join.mismatch = none ∧ a.port.events = 0 ∧ b.join = (member).join ∧ b.barrier = (member 7).barrier ∧
    b.port.events = 0 ∧ c.barrier.fillTag = none ∧ c.join = (listening 7).join ∧
    (cut (member) endBurst bad).port.counters.checkFails = 0 ∧ a.port.counters.truncated = 1 := by decide +kernel

/-- 02, R28, and 09, R158 and R164: a swap edge between the completion and the truncation. A MEMBER that found a duplicate has taken the
edge as a MEMBER; a LISTENING station that took a tag, and a JOINING one that found a duplicate, have taken none. The cadence record is
the one of the edge (04, R67). -/
theorem test_truncation_edge :
    let cut (s : State) (bs : List Byte) : State :=
      after (exec .busIdle (after (exec .confirmedRise (after (exec (.completion (lastLevel bs)) (atLastBit s bs))))))
    let low (s : State) : State := { s with barrier.confirmed := some .low }
    let d : List Byte := [0x43, 0x50]
    let ready : State := { member 90 with barrier := { (member 90).barrier with phase := some .ready, driverLow := false } }
    let a := cut ready d
    let b := cut (low (listening 7)) [0x29, 0xF0]
    let c := cut (low (joining 4)) d
    a.join.station = .member ∧ a.barrier.fillTag = some 6 ∧ a.barrier.phase = some .filling ∧ a.barrier.cadence.interval = 90 ∧
    a.port.counters.swaps = 1 ∧ a.port.events = 0 ∧
    b.join = { (listening 7).join with edgeCount := 1 } ∧ b.barrier.fillTag = none ∧ b.frame.request = none ∧ b.port.events = 0 ∧
    c.join = (joining 4).join ∧ c.frame.request = none ∧ c.port.events = 0 := by decide +kernel

/-- 02, R28: other events between the completion and the truncation have the effect that they have without the burst. A LISTENING station
that found a duplicate, and one that took a tag, notes a fall and a rise in its quiet watch and lets its welcome wait expire; an adoption
in READY leaves no forced flag behind past H, and before it no re-hold, so that a rise is the edge that it is in READY. -/
theorem test_truncation_events :
    let cut (s : State) (bs : List Byte) (es : List Instr) : State :=
      after (exec .busIdle (es.foldl (fun x e => after (exec e x)) (after (exec (.completion (lastLevel bs)) (atLastBit s bs)))))
    let high (s : State) : State := { s with barrier.confirmed := some .high }
    let d : List Byte := [0x43, 0x50]
    let w : List Byte := [0x29, 0xF0]
    let fall := [Instr.confirmedFall, .confirmedRise]
    let ready (n : Nat) : State :=
      { member n with
        barrier := { (member n).barrier with phase := some .ready, driverLow := false, fillTag := none }
        pub := { Publisher.reset with queue := [⟨.endFrame, 0⟩] } }
    let met (s : State) := (after (exec (.completion (lastLevel endBurst)) (atLastBit s endBurst))).barrier
    let edge := cut (ready 90) endBurst [.confirmedRise]
    (cut (high (listening 7)) d fall).join = { (listening 7).join with quietLow := true, edgeCount := 1 } ∧
    (cut (high (listening 7)) d (fall ++ [.welcomeWait])).join.joinPending = true ∧
    (cut (high (listening 7)) w (fall ++ [.welcomeWait])).join.station = .joining ∧
    ((met (ready 170)).forced = true ∧ (cut (ready 170) endBurst []).barrier = (ready 170).barrier ∧
      (cut (ready 170) endBurst []).port.counters.forced = 0 ∧ (cut (ready 170) endBurst []).port.events = 0) ∧
    (met (ready 90)).driverLow = true ∧ edge.barrier.timer = 0 ∧ edge.barrier.phase = some .filling ∧ edge.port.counters.stalls = 0 ∧
    edge.port.events = 0 ∧ edge.frame.request = some ⟨none, false, false, false⟩ ∧ edge.frame.baseState = .flipPending := by
  decide +kernel

/-- 04, R67: a damaged frame closed at an edge between the completion and the truncation stays counted, and the cadence record stays the
one of that edge. -/
theorem test_truncation_cadence :
    let s : State := { observer with barrier := { observer.barrier with openDamage := true, confirmed := some .low } }
    let t := after (exec .confirmedRise (after (exec (.completion (lastLevel endBurst)) (atLastBit s endBurst))))
    let u := after (exec .busIdle t)
    t.barrier.cadence.damaged = true ∧ u.barrier.cadence = t.barrier.cadence ∧ u.port.counters.damaged = 1 ∧ u.barrier.fillTag = none := by
  decide +kernel

/-- 02, R17, and 10, R174: a CONFIGURE between the completion and the slot abandons the burst and changes no counter; STALE was counted at
the completion (06, R93). -/
theorem test_configure_abandons_a_completion :
    let s := after (exec (.completion (lastLevel endBurst)) (atLastBit (station .configured) endBurst))
    let t := after (exec (.configure recordParams) s)
    s.port.counters.stale = 1 ∧ s.rx.outcome.isSome ∧ t.port.counters = s.port.counters ∧ t.rx.outcome = none ∧ t.link.view = .waiting := by
  decide +kernel

theorem test_witness_BusIdleAndStartPeriodOpenABurst_start :
    let s (v : BusView) : State := { member with link := { Link.reset with view := v } }
    (s .idle).link.view = .idle ∧ (s .opening).link.view = .opening ∧ (s .opening).pub.transmission = none ∧
    (sending (s .opening) ⟨.endFrame, 0⟩ [] (ofRequest false false)).pub.transmission ≠ none := by decide +kernel

theorem test_witness_BitPeriodStartDrivesTheSymbol :
    let s (v : BusView) (o x f : Bool) : State :=
      { member with link := { Link.reset with view := v, bitOpen := o, atSlot := x, refuse := f } }
    (s .waiting false false false).link.view = .waiting ∧ (s .burst true false false).link.bitOpen = true ∧
    (s .burst false false false).link.atSlot = false ∧ (s .burst false false false).rx.bitCount < 8 ∧
    (s .burst false true true).link.refuse = true ∧ (s .burst false true true).join.station = .member ∧
    (s .burst false true false).link.refuse = false ∧ State.reset.record = none ∧ (member).record = some record ∧
    (∀ d ∈ [Drive.one, .zero, .released], d = .released ∨ d = .one ∨ d = .zero ∨ d = .stretch) := by decide +kernel

/-- 02, section 2.2: ONE and ZERO sent together read ZERO, a ONE alone reads ONE, and START is low in every quarter. -/
theorem test_symbols :
    (List.ofFn fun q : Fin 4 => lineIn [.one, .zero] q) = [.low, .low, .low, .high] ∧
    (List.ofFn fun q : Fin 4 => lineIn [.one, .released] q) = [.low, .high, .high, .high] ∧
    (List.ofFn fun q : Fin 4 => lineIn [.start] q) = [.low, .low, .low, .low] := by decide +kernel

theorem test_witness_BitSamplePointTakesOneBit :
    let s (n : Nat) : State :=
      { member with link := { Link.reset with view := .burst, bitOpen := true }, rx := { Receiver.reset with bitCount := n } }
    (s 6).link.view = .burst ∧ (s 6).link.atSlot = false ∧ (s 6).link.bitOpen = true ∧ (s 6).rx.atLastBit = false ∧
    (s 6).sending = none ∧ (s 6).rx.bitCount < 7 ∧ (s 7).rx.bitCount = 7 ∧ (s 7).rx.atLastBit = false := by decide +kernel

theorem test_witness_AWholeBurstIsTakenInBitByBit :
    let s : State := { member with link := { Link.reset with view := .burst } }
    s.link.view = .burst ∧ s.link.atSlot = false ∧ s.pub.transmission = none ∧
    s.rx = { Receiver.reset with missed := s.rx.missed, overflow := s.rx.overflow } ∧ endBurst.length = 0 + 2 ∧
    fixedLength endBurst = some 0 ∧ fixedLength [0xE3, 0x54, 0, 0, 0, 0xFF, 0x80] = some 1541 ∧
    (List.replicate 31 true).length = 8 * (0 + 4) - 1 := by decide +kernel

theorem test_witness_LostArbitrationAndBitError :
    let s (n bits : Nat) : State :=
      { sending (member) ⟨.endFrame, 3⟩ [] (ofRequest false true) with
        link := { Link.reset with view := .burst, bitOpen := true }, rx := { Receiver.reset with received := n, bitCount := bits } }
    (s 0 1).link.view = .burst ∧ (s 0 1).link.atSlot = false ∧ (s 0 1).link.bitOpen = true ∧ (s 0 1).rx.received = 0 ∧
    (s 0 1).rx.atLastBit = false ∧ (s 0 7).rx.atLastBit = false ∧ (s 0 1).pub.transmission = some (ofRequest false true) ∧
    sentBit (ofRequest false true).bytes 1 = true ∧ sentBit (ofRequest false true).bytes 7 = true ∧ (s 0 7).rx.bitCount = 7 ∧
    (s 0 0).sending = some false ∧ (s 1 1).sending = some true ∧ (s 1 1).rx.received ≠ 0 := by decide +kernel

theorem test_witness_LostArbitrationAndBitError_last :
    let s := atLastBit (sending (member) ⟨.endFrame, 3⟩ [] (ofRequest false false)) [0x43, 0x50]
    s.link.view = .burst ∧ s.link.atSlot = false ∧ s.link.bitOpen = true ∧ s.rx.atLastBit = true ∧
    s.pub.transmission = some (ofRequest false false) ∧ s.sending = some true ∧ s.rx.received ≠ 0 := by decide +kernel

theorem test_witness_CheckFailuresAndMalformedBurstsAreRefused :
    let bad : Level := if lastLevel endBurst = .high then .low else .high
    let s := atLastBit (member) endBurst
    let m := atLastBit (member) [0x49, 0x51]
    CanComplete s bad ∧ s.record = some record ∧ (completed s bad).rx.check ≠ highLow (completed s bad).rx.running.toNat ∧
    CanComplete m (lastLevel [0x49, 0x51]) ∧
    (completed m (lastLevel [0x49, 0x51])).rx.check = highLow (completed m (lastLevel [0x49, 0x51])).rx.running.toNat ∧
    formOf 64 32 [0x49, 0x51] = none ∧ NoDuplicate m record (senderIn 0x49) ∧ formOf 64 32 [0x43, 0x51] = none ∧
    senderIn 0x43 = record.station ∧ NoDuplicate (atLastBit observer [0x43, 0x51]) record (senderIn 0x43) ∧
    CanComplete (atLastBit observer [0x43, 0x51]) (lastLevel [0x43, 0x51]) := by decide +kernel

theorem test_witness_CurrentAndStaleBursts :
    let s := atLastBit (member) endBurst
    let u := completed s (lastLevel endBurst)
    CanComplete s (lastLevel endBurst) ∧ s.barrier.fillTag = some 5 ∧ u.rx.body = endBurst ∧
    u.rx.check = highLow u.rx.running.toNat ∧ formOf 64 32 u.rx.body = some .endFrame ∧ senderIn (byteAt u.rx.body 0) ≠ record.station ∧
    tagIn (byteAt u.rx.body 1) = 5 ∧ tagIn 0x40 ≠ 5 ∧ s.barrier.fillTag ≠ none := by decide +kernel

/-- WITHDRAW from station 9, before its check: a MEMBER removes it at its slot result; and END at a JOINING station, whose tag is
UNKNOWN, is stale. -/
theorem test_witness_CurrentAndStaleBursts_others :
    let w := (RequestBody.withdraw).bytes 9 0 []
    let s := atLastBit (member) w
    let j := atLastBit (joining 4) endBurst
    let k := atLastBit { listening 7 with join := { (listening 7).join with admission := some .withTag, welcomeWait := none },
                                          barrier := { Barrier.reset with fillTag := some 15 } } [0x29, 0xF0]
    CanComplete s (lastLevel w) ∧ formOf 64 32 (completed s (lastLevel w)).rx.body = some .withdraw ∧ senderIn (byteAt w 0) ≠ record.station ∧
    CanComplete j (lastLevel endBurst) ∧ j.barrier.fillTag = none ∧ j.join.station = .joining ∧
    CanComplete k (lastLevel [0x29, 0xF0]) ∧ formOf 64 32 [0x29, 0xF0] = some .welcome ∧ k.join.admission = some .withTag ∧
    (after (exec (.completion (lastLevel endBurst)) j)).port.counters.stale = 1 := by decide +kernel

/-- 03, R50: at a CONFIGURED and at an OBSERVER station a burst that bears its own number makes no duplicate: it is classified on. -/
theorem test_witness_CurrentAndStaleBursts_discarded :
    let d : List Byte := [0x43, 0x50]
    let c := atLastBit (station .configured) d
    let o := atLastBit { observer with barrier := { observer.barrier with fillTag := some 5 } } d
    senderIn 0x43 = record.station ∧ CanComplete c (lastLevel d) ∧ CanComplete o (lastLevel d) ∧
    NoDuplicate c record (senderIn 0x43) ∧ NoDuplicate o record (senderIn 0x43) ∧ formOf 64 32 d = some .endFrame ∧
    c.barrier.fillTag = none ∧ o.barrier.fillTag = some 5 ∧ tagIn 0x50 = 5 ∧
    (after (exec (.completion (lastLevel d)) c)).port.counters.stale = 1 ∧
    (after (exec (.completion (lastLevel d)) o)).rx.outcome.map PendingOutcome.roster = some .update := by decide +kernel

theorem test_witness_TagsAreTakenFromTheWall :
    let w : List Byte := [0x29, 0xF0]
    let s := atLastBit observer endBurst
    let l := atLastBit { listening 7 with join := { (listening 7).join with edgeCount := 1 } } w
    CanComplete s (lastLevel endBurst) ∧ s.barrier.fillTag = none ∧ s.join.station = .observer ∧
    (completed s (lastLevel endBurst)).rx.check = highLow (completed s (lastLevel endBurst)).rx.running.toNat ∧
    CanComplete l (lastLevel w) ∧ (completed l (lastLevel w)).rx.check = highLow (completed l (lastLevel w)).rx.running.toNat ∧
    l.join.admission ≠ some .withTag ∧ formOf 64 32 w = some .welcome ∧ NoDuplicate l record (senderIn 0x29) ∧
    NoDuplicate s record (senderIn (byteAt endBurst 0)) ∧
    (after (exec (.completion (lastLevel w)) l)).barrier.fillTag = some 0 ∧ (station .configured).join.station = .configured := by
  decide +kernel

theorem test_witness_ADuplicateMakesAnObserver :
    let d : List Byte := [0x43, 0x50]
    let s := atLastBit (member) d
    CanComplete s (lastLevel d) ∧ s.record = some record ∧ s.pub.transmission = none ∧
    (completed s (lastLevel d)).rx.check = highLow (completed s (lastLevel d)).rx.running.toNat ∧ senderIn 0x43 = record.station ∧
    s.join.station = .member ∧ s.barrier.fillTag.isSome := by decide +kernel

/-- 06, R111: at a JOINING station the duplicate itself is stale: it makes an OBSERVER, whose tag stays UNKNOWN. -/
theorem test_witness_ADuplicateMakesAnObserver_joining :
    let d : List Byte := [0x43, 0x50]
    let s := atLastBit (joining 4) d
    let t := after (exec (.completion (lastLevel d)) s)
    CanComplete s (lastLevel d) ∧ s.join.station ≠ .member ∧ t.join.station = .observer ∧ t.barrier.fillTag = none ∧
    t.port.counters.stale = 1 ∧ t.rx.outcome.map PendingOutcome.roster = some .heardOnly := by decide +kernel

/-- 03, R48: a MEMBER without a tag adopts from the END on which it finds the duplicate, tag 5, with two edges taken during it. -/
theorem test_witness_ADuplicateMakesAnObserver_adopting :
    let d : List Byte := [0x43, 0x50]
    let s := atLastBit { member with barrier := { (member).barrier with fillTag := none }, join := { (member).join with edgeCount := 2 } } d
    let t := after (exec (.completion (lastLevel d)) s)
    CanComplete s (lastLevel d) ∧ s.join.station = .member ∧ s.barrier.fillTag = none ∧ t.join.station = .observer ∧
    t.barrier.fillTag = some 7 ∧ t.port.counters.stale = 1 := by decide +kernel

theorem test_witness_AMemberComparesTheDigest :
    let j : List Byte := [0x09, 0x00] ++ bytes16 (crc record.wallBytes)
    let d : List Byte := [0x09, 0x00, 0x00, 0x00]
    let s (bs : List Byte) := atLastBit (member) bs
    CanComplete (s j) (lastLevel j) ∧ (s j).pub.transmission = none ∧ formOf 64 32 j = some (.join (crc record.wallBytes)) ∧
    (completed (s j) (lastLevel j)).rx.check = highLow (completed (s j) (lastLevel j)).rx.running.toNat ∧
    senderIn 0x09 ≠ record.station ∧ (s j).digest = some (crc record.wallBytes) ∧ CanComplete (s d) (lastLevel d) ∧
    (completed (s d) (lastLevel d)).rx.check = highLow (completed (s d) (lastLevel d)).rx.running.toNat ∧
    formOf 64 32 d = some (.join 0) ∧ (s d).digest ≠ some 0 := by decide +kernel

/-- 09, R155: a station takes in its own JOIN, and its completion does nothing with it. -/
theorem test_witness_AMemberComparesTheDigest_own :
    let j : List Byte := [0x03, 0x00] ++ bytes16 (crc record.wallBytes)
    let s := atLastBit { joining 4 with pub := { Publisher.reset with transmission := some (newTransmission .join (withCheck j) none) } } j
    CanComplete s (lastLevel j) ∧ (completed s (lastLevel j)).rx.check = highLow (completed s (lastLevel j)).rx.running.toNat ∧
    formOf 64 32 j = some (.join (crc record.wallBytes)) ∧ senderIn 0x03 = record.station ∧ NoDuplicate s record (senderIn 0x03) ∧
    s.join.station ≠ .member := by decide +kernel

theorem test_witness_SlotResultActsOnBothSides :
    let s (o : Bool) : State := { member with link := { Link.reset with view := .burst, atSlot := true, bitOpen := o } }
    (s true).link.view = .burst ∧ (s true).link.atSlot = true ∧ (s true).link.bitOpen = true ∧ (s false).link.bitOpen = false := by
  decide +kernel

theorem test_witness_ThePendingOutcomeIsCarriedOut :
    let o (c : ContentPart) : PendingOutcome :=
      { identity := ⟨9, .fill, 7⟩, roster := .update, content := c, answersJoin := false }
    (member).rx.outcome = none ∧
    ({ member with rx.outcome := some (o .noRoom) } : State).rx.outcome = some (o .noRoom) ∧ (o .noRoom).content = .noRoom ∧
    (o (.reserved ⟨5, .palette 0 []⟩)).content = .reserved ⟨5, .palette 0 []⟩ ∧ (o (.look 5 ⟨true, false, 0⟩)).content = .look 5 ⟨true, false, 0⟩ ∧
    observer.join.station = .observer ∧ (member).join.station ≠ .observer := by decide +kernel

theorem test_witness_RosterFollowsTheBursts :
    let e (n : Nat) (st : EntryState) (si : Nat) : RosterEntry := ⟨BitVec.ofNat 5 n, st, if st = .laggard then 3 else 0, si, false⟩
    let full := (List.range 15).map (fun n => e n .idle 0) ++ e 20 .laggard 7 :: []
    (∃ x ∈ full, x.station = 3) ∧ (∀ x ∈ full, x.station ≠ 30) ∧ ((List.range 15).map fun n => e n .idle 0).length < 16 ∧
    16 ≤ full.length ∧ (full.map RosterEntry.station).Nodup ∧ (∀ x ∈ (List.range 16).map (fun n => e n .ended 0), x.state ≠ .laggard) ∧
    (∀ x ∈ (List.range 15).map (fun n => e n .idle 0), x.state = .laggard → x.silence < 7) := by decide +kernel

theorem test_witness_OrientationMapsTheViewportOntoThePanel :
    record.valid = true ∧ (16 ≤ 31 ∧ 31 < 16 + record.viewWidth ∧ 0 ≤ 15 ∧ 15 < 0 + record.viewHeight) ∧
    ¬ (32 < 16 + record.viewWidth) ∧ record.addressOf 31 15 = some (15 * 128 + 15) ∧ 15 < record.columns := by decide +kernel

theorem test_witness_IntersectionIsTheSharedPixels :
    record.valid = true ∧ record.touches ⟨31, 15, 1, 1⟩ = true ∧ record.touches ⟨32, 0, 4, 4⟩ = false := by decide +kernel

theorem test_witness_Rgb565ExpandsAndOpaqueBlackCovers :
    15 * 128 + 15 ∈ record.intersectionAddresses ⟨31, 15, 1, 1⟩ ∧ Memory.wf Color.black FrameStore.reset.baseFill ∧
    Memory.wf OverlayPixel.clear FrameStore.reset.overlayFill ∧ 0 < [Color.black].length ∧ Memory.wf Color.black Intake.reset.palette ∧
    Look.default.overlayVisible = true ∧ Look.default.invert = false ∧ Look.default.dim = 0 := by decide +kernel

/-- A MEMBER whose engine is committing this content. -/
def committing (c : Content) : State := { member with intake := { queue := [⟨5, c⟩], committing := true, palette := [] } }

theorem test_witness_CommitsBeginWithAnEligibleHead :
    let s (c : Content) (l : LayerState) : State :=
      { member with intake := { queue := [⟨5, c⟩], committing := false, palette := [] }, frame := { FrameStore.reset with overlayState := l } }
    (s (.stripe .overlay .idx8 ⟨0, 0, 1, 1⟩ [.idx8 0]) .steady).frame.layerState .overlay = .steady ∧
    (s (.fill .overlay ⟨0, 0, 1, 1⟩ Color.black true) .preparing).frame.layerState .overlay ≠ .steady ∧
    (s (.palette 0 []) .preparing).intake.committing = false ∧ (member).intake.queue = [] ∧
    (committing (.palette 0 [])).intake.committing = true := by decide +kernel

theorem test_witness_StripeCommitWritesItsPixels :
    let c : Content := .stripe .overlay .idx8 ⟨15, 0, 2, 1⟩ [.idx8 7, .idx8 0]
    (committing c).record = some record ∧ record.valid = true ∧ (committing c).intake.committing = true ∧
    (committing c).intake.queue = [⟨5, c⟩] ∧ [RawPixel.idx8 7, .idx8 0].length = 2 * 1 ∧
    Memory.wf Color.black (committing c).frame.baseFill ∧ Memory.wf OverlayPixel.clear (committing c).frame.overlayFill ∧
    record.addressOf (15 + 1 % 2) (0 + 1 / 2) = some 0 ∧ record.addressOf 15 0 = none := by decide +kernel

theorem test_witness_FillCommitWritesItsIntersection :
    let c : Content := .fill .base ⟨0, 0, 17, 1⟩ ⟨1, 2, 3⟩ false
    (committing c).record = some record ∧ record.valid = true ∧ (committing c).intake.committing = true ∧
    (committing c).intake.queue = [⟨5, c⟩] ∧ Memory.wf Color.black (committing c).frame.baseFill ∧
    Memory.wf OverlayPixel.clear (committing c).frame.overlayFill ∧
    (after (exec .fillCommit (committing c))).frame.baseB = [(0, ⟨1, 2, 3⟩)] := by decide +kernel

theorem test_witness_PaletteCommitWritesItsRange :
    let c : Content := .palette 255 [⟨1, 2, 3⟩]
    (committing c).intake.committing = true ∧ (committing c).intake.queue = [⟨5, c⟩] ∧
    Memory.wf Color.black (committing c).intake.palette ∧
    (after (exec .paletteCommit (committing c))).intake.palette = [(255, ⟨1, 2, 3⟩)] := by decide +kernel

/-- A MEMBER whose scan stands at a row. -/
def scanning (row : Nat) : State := { member with frame := { FrameStore.reset with scan := some { row := row, base := .a, overlay := .a } } }

theorem test_witness_LineTimeShowsOneCompositedRow :
    (scanning 14).record = some record ∧ (scanning 14).frame.scan = some ⟨14, .a, .a⟩ ∧ 14 + 1 < record.rows ∧
    (scanning 15).frame.scan = some ⟨15, .a, .a⟩ ∧ record.rows ≤ 15 + 1 ∧ 1 ≤ record.columns ∧ State.reset.frame.scan = none := by
  decide +kernel

/-- 08, R148 and R146: in STARTING the panel is blanked with every other output 0; over a line time the column runs from 0 to 15, and
then the row is latched once, blanked. -/
theorem test_panelOutputs :
    State.reset.panelOutputs = [⟨⟨0, 0, 0⟩, 0, 0, true, false⟩] ∧ (scanning 14).panelOutputs.length = 20 ∧
    ((scanning 14).panelOutputs.map fun x => (x.blank, x.latch)).drop 15 =
      [(false, false), (true, false), (true, true), (true, false), (false, false)] ∧
    ((scanning 14).panelOutputs.map fun x => x.column.toNat).take 16 = List.range 16 := by decide +kernel

/-- 08, R136 and R143: a CARRY pass copies the shown bank at a position in use, column 3 of row 2; the fill bank's own position outside the
use, column 20 of row 0, keeps what it holds. -/
theorem test_carry :
    let red : Color := ⟨63, 0, 0⟩
    let blue : Color := ⟨0, 0, 63⟩
    let s : State := { member with frame := { (member).frame with baseState := .preparing, baseA := [(20, red), (259, red)],
                                                                  baseB := [(20, blue), (259, blue)] } }
    let t := after (exec (.preparationPassEnd .base) s)
    t.frame.baseB = [(20, blue), (259, red)] ∧ t.frame.baseA = s.frame.baseA := by decide +kernel

theorem test_witness_PreparationPassPreparesTheFillBank :
    let s : State := { member with frame := { FrameStore.reset with baseState := .preparing, overlayState := .preparing } }
    s.record = some record ∧ Memory.wf Color.black s.frame.baseFill ∧ Memory.wf OverlayPixel.clear s.frame.overlayFill ∧
    Memory.wf Color.black (s.frame.base s.frame.shownBase) ∧ Memory.wf OverlayPixel.clear (s.frame.overlay s.frame.shownOverlay) ∧
    s.frame.baseState = .preparing ∧ s.frame.overlayState = .preparing := by decide +kernel

theorem test_witness_TheFlipShowsTheClosedFrame :
    let q : FlipRequest := { tag := some 5, damage := true, heldCommit := false, passEnd := true }
    let s : State := { member with frame := { FrameStore.reset with baseState := .flipPending, overlayState := .flipPending, request := some q } }
    s.record = some record ∧ s.frame.request = some q ∧ q.passEnd = true ∧ q.heldCommit = false ∧ s.frame.baseState = .flipPending ∧
    s.frame.overlayState = .flipPending ∧ (∀ q ∈ (member).frame.request, q.passEnd = false) := by decide +kernel

theorem test_witness_OnlyAFlipChangesThePicture :
    let s : State := { scanning 15 with pending := [.lineTime] }
    step s = .next (after (step s)) ∧ s.pending.head? ≠ some .hardReset ∧ s.pending.head? ≠ some .startUpClearPass :=
  ⟨rfl, by decide +kernel⟩

theorem test_witness_TheSwapEdgeInEveryBlock :
    (member).join.station = .member ∧ observer.join.station = .observer ∧ (listening 0).join.station = .listening ∧
    (scanning 15).record = some record ∧ (scanning 15).frame.scan = some ⟨15, .a, .a⟩ ∧ record.rows ≤ 15 + 1 ∧
    (scanning 14).frame.scan = some ⟨14, .a, .a⟩ ∧ 14 + 1 < record.rows ∧
    (let m (q : Option FlipRequest) : State := { member with frame := { FrameStore.reset with markDue := true, request := q } }
     (member).frame.markDue = false ∧ (m none).frame.markDue = true ∧ (m none).frame.request = none ∧
     (m (some ⟨some 5, false, false, true⟩)).frame.request = some ⟨some 5, false, false, true⟩) := by decide +kernel

/-- 08, R141: in the last row of a pass the mark of damage is left; the pass end then makes the flip first, and the mark raises DAMAGE at
once. Before the last row the mark sets the note of the request. -/
theorem test_lateMark :
    let s (row : Nat) : State :=
      { scanning row with barrier := { (member 100).barrier with phase := some .ready, driverLow := false, openDamage := true } }
    let late := (s 15).swapEdge
    let t := after (exec .lineTime late)
    late.frame.markDue = true ∧ late.frame.request.map FlipRequest.damage = some false ∧ late.barrier.cadence.damaged = true ∧
    t.port.events = 0x003 ∧ t.frame.request = none ∧ t.frame.markDue = false ∧ (s 15).damagedAtEdge = true ∧
    (s 14).swapEdge.frame.markDue = false ∧ (s 14).swapEdge.frame.request.map FlipRequest.damage = some true := by decide +kernel

/-- 08, section 8.14: a mark left in the last row, with a held commit that outlasts the pass: the pass end sets the note of the request
that still stands, and the end of the commit makes the flip, with SHOWN and DAMAGE. -/
theorem test_lateMark_heldCommit :
    let s : State :=
      { scanning 15 with
        intake := { queue := [⟨5, .palette 0 []⟩], committing := true, palette := [] }
        barrier := { (member 100).barrier with phase := some .ready, driverLow := false, openDamage := true } }
    let t := after (exec .lineTime s.swapEdge)
    t.frame.request.map FlipRequest.damage = some true ∧ t.port.events = 0 ∧ t.frame.scan.map Scan.row = some 0 ∧
    (after (exec .paletteCommit (after (exec .lineTime (after (exec .lineTime t)))))).port.events = 0x003 := by decide +kernel

theorem test_witness_AConfirmedRiseByStationState :
    let s : State := { member 100 with barrier := { (member 100).barrier with phase := some .ready, driverLow := false } }
    let l (a : Option Admission) : State :=
      { station .listening with join := { Join.reset with station := .listening, admission := a },
                                barrier := { Barrier.reset with confirmed := some .low } }
    s.join.station ≠ .starting ∧ s.barrier.confirmed = some .low ∧ s.join.station = .member ∧ s.barrier.phase = some .ready ∧
    (member).barrier.phase = some .filling ∧ (member).barrier.driverLow = true ∧ (member).barrier.faultWatch = false ∧
    (l (some .withoutTag)).join.admission.isSome ∧ (l none).join.admission = none ∧ (l none).barrier.confirmed = some .low ∧
    (station .configured).join.station = .configured ∧ observer.join.station = .observer := by decide +kernel

theorem test_witness_TheOtherEventsOnTheSyncLine :
    let s : State := { member with barrier := { (member).barrier with confirmed := some .high, redrive := true } }
    s.join.station ≠ .starting ∧ s.barrier.confirmed = some .high ∧ observer.barrier.confirmed = none ∧
    State.reset.join.station = .starting ∧ s.barrier.redrive = true ∧ s.join.station = .member ∧ s.barrier.phase = some .filling ∧
    ({ observer with barrier := { observer.barrier with redrive := true } } : State).join.station ≠ .member ∧
    (member).barrier.redrive = false := by decide +kernel

theorem test_witness_ReleaseReholdForceAndStall :
    let s (n : Nat) (p : Phase) : State := { member n with barrier := { (member n).barrier with phase := some p, driverLow := false } }
    let busy (n : Nat) (p : Phase) : State := { s n p with intake := { Intake.reset with queue := [⟨5, .palette 0 []⟩] } }
    record.valid = true ∧ (member 80).ready = true ∧ (member 79).ready = false ∧ (busy 159 .ready).ready = false ∧
    (busy 159 .ready).barrier.timer < 2 * 80 ∧ (busy 160 .ready).ready = false ∧ 2 * 80 ≤ (busy 160 .ready).barrier.timer ∧
    (busy 240 .stalled).barrier.phase = some .stalled ∧ (s 160 .ready).ready = true ∧ (member 80).barrier.phase = some .filling ∧
    (s 239 .ready).barrier.timer < 2 * 80 + 80 ∧ 2 * 80 ≤ (s 160 .ready).barrier.timer ∧ 2 * 80 + 80 ≤ (s 240 .stalled).barrier.timer ∧
    (s 80 .ready).barrier.forced = false ∧ (member 80).record = some record ∧ (member 80).barrier.timerRunning = true ∧
    (member 159).barrier.forced = false ∧ (member 159).ready = true ∧ (member 159).barrier.timer + 1 = 2 * 80 ∧ (s 159 .ready).barrier.releaseTime ≠ 159 ∧
    ({ s 159 .ready with barrier := { (s 159 .ready).barrier with releaseTime := 159 } } : State).barrier.releaseTime = 159 := by
  decide +kernel

/-- 04, R59: readiness that comes true at the moment the timer reaches H, and is taken first, releases unforced with release time H. -/
theorem test_readyAtHold :
    let t := after (exec .holdLimit (member 159).react)
    t.barrier.phase = some .ready ∧ t.barrier.forced = false ∧ t.barrier.releaseTime = 160 ∧ t.barrier.timer = 160 ∧
    t.port.counters.forced = 0 := by decide +kernel

theorem test_witness_TheWelcomeWaitEndsInThreeWays :
    let s (b : Nat) (q : Bool) : State := { listening 159 with join := { (listening 159).join with budget := b, quietLow := q } }
    (s 1 true).join.station = .listening ∧ (s 1 true).join.welcomeWait.isSome ∧ (s 1 true).join.quietLow = true ∧
    0 < (s 1 true).join.budget ∧ (s 0 true).join.budget = 0 ∧ (s 0 false).join.quietLow = false := by decide +kernel

/-- A MEMBER in READY whose next command is a confirmed rise. -/
def beforeEdge : State :=
  { member 100 with pending := [.confirmedRise], barrier := { (member 100).barrier with phase := some .ready, driverLow := false } }

theorem test_witness_StepKeepsTheStoresCanonical : StoresWf beforeEdge ∧ step beforeEdge = .next (after (step beforeEdge)) := by
  refine ⟨⟨?_, ?_, ?_, ?_, ?_, ?_⟩, rfl⟩ <;> decide +kernel

theorem test_witness_StepKeepsTheListsInBounds :
    (RosterWf beforeEdge ∧ IntakeBounded beforeEdge ∧ MissedWf beforeEdge ∧ QueueBounded beforeEdge ∧ RunsWf beforeEdge) ∧
    step beforeEdge = .next (after (step beforeEdge)) := by
  refine ⟨⟨?_, ?_, ?_, ⟨?_, ?_⟩, ⟨0, rfl⟩, ?_⟩, rfl⟩
  case refine_5 => intro u hu; cases hu
  case refine_6 => intro u hu; cases hu
  all_goals decide +kernel

theorem test_witness_StepKeepsTheStationInOrder : WallWf beforeEdge := by
  refine ⟨⟨⟨?_, ?_, ?_⟩, ?_, ?_, ?_, ?_, ?_, ?_, ⟨?_, ?_, ?_⟩⟩, ?_⟩
  rotate_right 2
  · intro o ho
    cases ho
  · intro u hu
    cases hu
  all_goals decide +kernel

theorem test_witness_StepLeavesTheStationSettled : Settled beforeEdge := by
  refine ⟨?_, ?_, ?_, ?_, ?_, ?_⟩ <;> decide +kernel

theorem test_witness_TheTagAdvancesByOneAtEachEdge :
    let t := after (step beforeEdge)
    step beforeEdge = .next t ∧ beforeEdge.barrier.fillTag = some 5 ∧ t.barrier.fillTag = some 6 ∧ beforeEdge.join.station = .member ∧
    beforeEdge.pending.head? = some .confirmedRise ∧ beforeEdge.barrier.confirmed = some .low ∧
    beforeEdge.barrier.phase = some .ready := ⟨rfl, by decide +kernel⟩

theorem test_witness_TheTagAdvancesByOneAtEachEdge_invariant : WallWf beforeEdge := test_witness_StepKeepsTheStationInOrder

end Sys2Proof.Tests
end

section
/-! SUPPORT. The canvas mapping: the orientations as maps between the viewport and the panel, the bank address of a canvas pixel, and
the canvas pixels that a STRIPE or FILL commit writes. -/

namespace Sys2Proof.Machine

/-! ### The orientations (R6) -/

/-- Offsets inside the viewport map to a position in use. -/
theorem Record.panelPosition_lt (r : Record) {u v : Nat} (hu : u < r.viewWidth) (hv : v < r.viewHeight) :
    (r.panelPosition u v).1 < r.columns ∧ (r.panelPosition u v).2 < r.rows := by
  cases h : r.orientation <;>
    simp only [Record.viewWidth, Record.viewHeight, Record.panelPosition, Orientation.turned, h] at hu hv ⊢ <;>
    grind

/-- The orientation that undoes an orientation: the plain quarter rotations undo each other, and every other one undoes itself. -/
def Orientation.inverse : Orientation → Orientation
  | .r90 => .r270
  | .r270 => .r90
  | o => o

/-- The viewport offsets of a panel position: the inverse orientation, applied on the viewport as if it were the panel. -/
def Record.viewportOffsets (r : Record) (column row : Nat) : Nat × Nat :=
  Record.panelPosition { r with orientation := r.orientation.inverse, columns := r.viewWidth, rows := r.viewHeight } column row

theorem Record.viewportOffsets_lt (r : Record) {column row : Nat} (hc : column < r.columns) (hr : row < r.rows) :
    (r.viewportOffsets column row).1 < r.viewWidth ∧ (r.viewportOffsets column row).2 < r.viewHeight := by
  refine Record.panelPosition_lt _ ?_ ?_ <;>
    cases h : r.orientation <;>
    simpa [Record.viewWidth, Record.viewHeight, Orientation.turned, Orientation.inverse, h]

theorem Record.panelPosition_viewportOffsets (r : Record) {column row : Nat} (hc : column < r.columns) (hr : row < r.rows) :
    r.panelPosition (r.viewportOffsets column row).1 (r.viewportOffsets column row).2 = (column, row) := by
  cases h : r.orientation <;>
    simp only [Record.viewportOffsets, Record.viewWidth, Record.viewHeight, Record.panelPosition, Orientation.inverse,
      Orientation.turned, h] <;>
    grind

theorem Record.viewportOffsets_panelPosition (r : Record) {u v : Nat} (hu : u < r.viewWidth) (hv : v < r.viewHeight) :
    r.viewportOffsets (r.panelPosition u v).1 (r.panelPosition u v).2 = (u, v) := by
  cases h : r.orientation <;>
    simp only [Record.viewportOffsets, Record.viewWidth, Record.viewHeight, Record.panelPosition, Orientation.inverse,
      Orientation.turned, h] at hu hv ⊢ <;>
    grind

/-! ### Bank addresses (R136) -/

/-- A valid record's panel is no wider than a bank (R4). -/
theorem Record.columns_le_of_valid {r : Record} (h : r.valid = true) : r.columns ≤ Config.bankColumns := by
  simp only [Record.valid, Bool.and_eq_true, decide_eq_true_eq] at h
  unfold Config.bankColumns
  omega

/-- Positions with columns inside a bank have different addresses. -/
theorem bankAddress_inj {column row column' row' : Nat} (hc : column < Config.bankColumns) (hc' : column' < Config.bankColumns)
    (h : bankAddress column row = bankAddress column' row') : column = column' ∧ row = row' := by
  unfold bankAddress Config.bankColumns at *
  omega

/-- A canvas pixel has an address when it lies inside the viewport: that of the panel position of its offsets (R3, R6). -/
theorem Record.addressOf_eq_some_iff {r : Record} {cx cy a : Nat} :
    r.addressOf cx cy = some a ↔
      (r.originX ≤ cx ∧ cx < r.originX + r.viewWidth ∧ r.originY ≤ cy ∧ cy < r.originY + r.viewHeight) ∧
      a = bankAddress (r.panelPosition (cx - r.originX) (cy - r.originY)).1 (r.panelPosition (cx - r.originX) (cy - r.originY)).2 := by
  unfold Record.addressOf
  split <;> simp_all [eq_comm]

theorem Record.addressOf_eq_none_iff {r : Record} {cx cy : Nat} :
    r.addressOf cx cy = none ↔
      ¬ (r.originX ≤ cx ∧ cx < r.originX + r.viewWidth ∧ r.originY ≤ cy ∧ cy < r.originY + r.viewHeight) := by
  unfold Record.addressOf
  split <;> simp_all

/-- Under a valid record no two canvas pixels have one address. -/
theorem Record.addressOf_inj {r : Record} (hr : r.valid = true) {cx cy cx' cy' a : Nat} (h : r.addressOf cx cy = some a)
    (h' : r.addressOf cx' cy' = some a) : cx = cx' ∧ cy = cy' := by
  obtain ⟨hin, ha⟩ := Record.addressOf_eq_some_iff.1 h
  obtain ⟨hin', ha'⟩ := Record.addressOf_eq_some_iff.1 h'
  have hw := Record.columns_le_of_valid hr
  have hu : cx - r.originX < r.viewWidth := by omega
  have hv : cy - r.originY < r.viewHeight := by omega
  have hu' : cx' - r.originX < r.viewWidth := by omega
  have hv' : cy' - r.originY < r.viewHeight := by omega
  have hp := bankAddress_inj ((r.panelPosition_lt hu hv).1.trans_le hw) ((r.panelPosition_lt hu' hv').1.trans_le hw)
    (ha.symm.trans ha')
  have hoff : (cx - r.originX, cy - r.originY) = (cx' - r.originX, cy' - r.originY) := by
    rw [← r.viewportOffsets_panelPosition hu hv, hp.1, hp.2, r.viewportOffsets_panelPosition hu' hv']
  simp only [Prod.mk.injEq] at hoff
  omega

/-- Every position in use holds a canvas pixel. -/
theorem Record.exists_addressOf (r : Record) {column row : Nat} (hc : column < r.columns) (hr : row < r.rows) :
    ∃ cx cy, r.addressOf cx cy = some (bankAddress column row) := by
  have hlt := r.viewportOffsets_lt hc hr
  refine ⟨r.originX + (r.viewportOffsets column row).1, r.originY + (r.viewportOffsets column row).2, ?_⟩
  rw [Record.addressOf_eq_some_iff, Nat.add_sub_cancel_left, Nat.add_sub_cancel_left, r.panelPosition_viewportOffsets hc hr]
  exact ⟨by omega, rfl⟩

/-! ### The pixels that a commit writes (R8, R9) -/

/-- The cells of a STRIPE: payload pixel `k` at the address of its canvas pixel, row by row, when that lies inside the viewport. -/
theorem mem_stripeCells_iff {r : Record} {q : Rect} {slot : List RawPixel} {c : Nat × RawPixel} :
    c ∈ stripeCells r q slot ↔ ∃ k, ∃ h : k < slot.length,
      c.2 = slot[k] ∧ r.addressOf (q.x + k % q.width) (q.y + k / q.width) = some c.1 := by
  obtain ⟨a, p⟩ := c
  simp only [stripeCells, List.mem_filterMap, Prod.exists, List.mk_mem_zipIdx_iff_getElem?]
  constructor
  · rintro ⟨p', k, hk, hcell⟩
    obtain ⟨hlt, rfl⟩ := List.getElem?_eq_some_iff.1 hk
    split at hcell
    case h_1 hat =>
      cases hcell
      exact ⟨k, hlt, rfl, hat⟩
    case h_2 => cases hcell
  · rintro ⟨k, hlt, rfl, ha⟩
    exact ⟨slot[k], k, List.getElem?_eq_getElem hlt, by rw [ha]⟩

theorem mem_pixelsBetween_iff {x0 x1 y0 y1 x y : Nat} :
    (x, y) ∈ pixelsBetween x0 x1 y0 y1 ↔ (x0 ≤ x ∧ x < x1) ∧ y0 ≤ y ∧ y < y1 := by
  simp only [pixelsBetween, List.mem_flatMap, List.mem_map, List.mem_range, Prod.mk.injEq]
  constructor
  · rintro ⟨j, hj, i, hi, rfl, rfl⟩
    omega
  · rintro ⟨hx, hy⟩
    exact ⟨y - y0, by omega, x - x0, by omega, by omega, by omega⟩

/-- The addresses of a rectangle's intersection with the viewport: those of the canvas pixels of the rectangle that have one. -/
theorem Record.mem_intersectionAddresses_iff {r : Record} {q : Rect} {a : Nat} :
    a ∈ r.intersectionAddresses q ↔
      ∃ cx cy, q.x ≤ cx ∧ cx < q.x + q.width ∧ q.y ≤ cy ∧ cy < q.y + q.height ∧ r.addressOf cx cy = some a := by
  simp only [Record.intersectionAddresses, Record.intersection, List.mem_filterMap, Prod.exists, mem_pixelsBetween_iff]
  constructor
  · rintro ⟨cx, cy, hin, ha⟩
    exact ⟨cx, cy, by omega, by omega, by omega, by omega, ha⟩
  · rintro ⟨cx, cy, hx, hx', hy, hy', ha⟩
    obtain ⟨hin, -⟩ := Record.addressOf_eq_some_iff.1 ha
    exact ⟨cx, cy, by omega, ha⟩

end Sys2Proof.Machine
end

section
/-! SUPPORT. Expansion and writing of colours: the components of RGB565, what a written cell reads, and compositing without an effect
of the look. -/

namespace Sys2Proof.Machine

/-! ### What a list of writes leaves (R14) -/

/-- An address that the cells name, always with one value, reads that value. -/
theorem Memory.read_writeAll_of_mem {α : Type} [DecidableEq α] {d : α} (cells : List (Nat × α)) {m : Memory α}
    (h : Memory.wf d m) {j : Nat} {v : α} (hm : (j, v) ∈ cells) (hv : ∀ c ∈ cells, c.1 = j → c.2 = v) :
    Memory.read d (m.writeAll d cells) j = v := by
  induction cells generalizing m with
  | nil => simp at hm
  | cons c cells ih =>
    by_cases hlater : (j, v) ∈ cells
    · exact ih (Memory.wf_write c.1 c.2 h) hlater fun b hb => hv b (List.mem_cons_of_mem c hb)
    · obtain rfl : (j, v) = c := (List.mem_cons.1 hm).resolve_right hlater
      refine Memory.read_writeAll_of_last [] cells h j v ?_
      rintro ⟨i, w⟩ hb rfl
      have hw : w = v := hv (i, w) (List.mem_cons_of_mem _ hb) rfl
      exact hlater (hw ▸ hb)

@[simp] theorem FrameStore.baseFill_setBaseFill (f : FrameStore) (m : Memory Color) : (f.setBaseFill m).baseFill = m := by
  cases h : f.shownBase <;> simp [FrameStore.setBaseFill, FrameStore.baseFill, FrameStore.base, Bank.other, h]

@[simp] theorem FrameStore.overlayFill_setOverlayFill (f : FrameStore) (m : Memory OverlayPixel) :
    (f.setOverlayFill m).overlayFill = m := by
  cases h : f.shownOverlay <;> simp [FrameStore.setOverlayFill, FrameStore.overlayFill, FrameStore.overlay, Bank.other, h]

/-- A list of writes of one value: the addresses written read that value. -/
theorem Memory.read_writeAll_const {α : Type} [DecidableEq α] {d : α} {m : Memory α} (h : Memory.wf d m) {as : List Nat} {j : Nat}
    (hj : j ∈ as) (v : α) : Memory.read d (m.writeAll d (as.map fun a => (a, v))) j = v := by
  refine Memory.read_writeAll_of_mem _ h (List.mem_map_of_mem hj) ?_
  intro c hc _
  obtain ⟨a, -, rfl⟩ := List.mem_map.1 hc
  rfl

/-- A FILL on the base gives its colour to every address that it writes (R106). -/
theorem FrameStore.read_writeFill_base (f : FrameStore) (r : Record) (q : Rect) (color : Color) (transparent : Bool)
    (p : Nat → Bool) (hwf : Memory.wf Color.black f.baseFill) {a : Nat} (ha : a ∈ r.intersectionAddresses q) (hp : p a = true) :
    Memory.read Color.black (f.writeFill r .base q color transparent p).baseFill a = color := by
  simp only [FrameStore.writeFill, FrameStore.baseFill_setBaseFill]
  exact Memory.read_writeAll_const hwf (List.mem_filter.2 ⟨ha, hp⟩) color

/-- A FILL on the overlay gives its pixel, opaque or transparent, to every address that it writes (R106). -/
theorem FrameStore.read_writeFill_overlay (f : FrameStore) (r : Record) (q : Rect) (color : Color) (transparent : Bool)
    (p : Nat → Bool) (hwf : Memory.wf OverlayPixel.clear f.overlayFill) {a : Nat} (ha : a ∈ r.intersectionAddresses q)
    (hp : p a = true) :
    Memory.read OverlayPixel.clear (f.writeFill r .overlay q color transparent p).overlayFill a =
      if transparent then OverlayPixel.clear else ⟨color, true⟩ := by
  simp only [FrameStore.writeFill, FrameStore.overlayFill_setOverlayFill]
  exact Memory.read_writeAll_const hwf (List.mem_filter.2 ⟨ha, hp⟩) _

/-- Colour `i` of a PALETTE is what entry `first + i` reads (R107). -/
theorem read_writePalette {palette : Memory Color} (first : Nat) {i : Nat} {slot : List Color} (h : i < slot.length)
    (hwf : Memory.wf Color.black palette) : Memory.read Color.black (writePalette palette first slot) (first + i) = slot[i] := by
  refine Memory.read_writeAll_of_mem _ hwf ?_ ?_
  · exact List.mem_map.2 ⟨(slot[i], i), List.mk_mem_zipIdx_iff_getElem?.2 (List.getElem?_eq_getElem h), rfl⟩
  · intro c hc hi
    obtain ⟨⟨color, k⟩, hk, rfl⟩ := List.mem_map.1 hc
    obtain rfl : k = i := Nat.add_left_cancel hi
    simpa [List.getElem?_eq_getElem h, eq_comm] using List.mk_mem_zipIdx_iff_getElem?.1 hk

/-! ### Expansion and compositing (R12, R147) -/

/-- A 5-bit component doubles up to 15, and becomes one more than its double from 16 (R12). -/
theorem expand5_eq_ite (v : BitVec 5) :
    expand5 v = if v.toNat ≤ 15 then BitVec.ofNat 6 (2 * v.toNat) else BitVec.ofNat 6 (2 * v.toNat + 1) := by
  unfold expand5
  split
  · rw [Nat.div_eq_of_lt (by omega), Nat.add_zero]
  · have hquot : v.toNat / 16 = 1 := by omega
    rw [hquot]

/-- RGB565 holds red in the 5 high bits, green in the 6 middle bits and blue in the 5 low bits. -/
theorem expand_rgb565_append (palette : Memory Color) (red blue : BitVec 5) (green : BitVec 6) :
    expand palette (.rgb565 (red ++ green ++ blue)) = ⟨expand5 red, green, expand5 blue⟩ := by
  have hred : (red ++ green ++ blue).extractLsb' 11 5 = red :=
    (BitVec.extractLsb'_append_eq_of_le (by omega)).trans BitVec.extractLsb'_append_eq_left
  have hgreen : (red ++ green ++ blue).extractLsb' 5 6 = green :=
    (BitVec.extractLsb'_append_eq_of_le (by omega)).trans BitVec.extractLsb'_append_eq_right
  have hblue : (red ++ green ++ blue).extractLsb' 0 5 = blue := BitVec.extractLsb'_append_eq_right
  simp only [expand]
  rw [hred, hgreen, hblue]

/-- Every pixel but an IDX8 pixel of index 0 is opaque on the overlay (R12, R13). -/
theorem expandOverlay_of_ne (palette : Memory Color) {p : RawPixel} (h : p ≠ .idx8 0) :
    expandOverlay palette p = ⟨expand palette p, true⟩ := if_neg h

@[simp] theorem dimComponent_zero (c : BitVec 6) : dimComponent 0#4 c = c := by
  simp [dimComponent]

/-- Under a look that shows the overlay and neither inverts nor dims, an opaque overlay pixel covers the base. -/
theorem composite_of_opaque {look : Look} (base c : Color) (hv : look.overlayVisible = true) (hi : look.invert = false)
    (hd : look.dim = 0) : composite look base ⟨c, true⟩ = c := by
  simp [composite, invertComponent, hv, hi, hd]

end Sys2Proof.Machine
end

section
/-! The statements of the canvas, the viewport and the pixels: O38 and O40. -/

namespace Sys2Proof.Proofs

open Sys2Proof.Machine

/-- Settles O38: each orientation has an inverse between the positions in use and the viewport, and a bank address determines its
position since a valid panel is no wider than a bank. -/
theorem orientationMapsTheViewportOntoThePanel : Obligations.OrientationMapsTheViewportOntoThePanel := by
  refine ⟨fun r u v => ?_, fun r hr => ⟨fun cx cy hin => ?_, fun cx cy => Record.addressOf_eq_none_iff.2,
    fun cx cy cx' cy' a => Record.addressOf_inj hr, fun column row => r.exists_addressOf,
    fun q slot c => mem_stripeCells_iff.1, fun q a ha => ?_⟩⟩
  · cases h : r.orientation <;> simp only [Record.panelPosition, h]
  · have hpos := r.panelPosition_lt (u := cx - r.originX) (v := cy - r.originY) (by omega) (by omega)
    exact ⟨_, _, rfl, hpos.1, hpos.2, Record.addressOf_eq_some_iff.2 ⟨hin, rfl⟩⟩
  · obtain ⟨cx, cy, hx, hx', hy, hy', hat⟩ := Record.mem_intersectionAddresses_iff.1 ha
    exact ⟨cx, cy, hat, hx, hx', hy, hy'⟩

/-- Settles O40, by the components of RGB565, what the cells that a commit writes read, and compositing with an opaque pixel. -/
theorem rgb565ExpandsAndOpaqueBlackCovers : Obligations.Rgb565ExpandsAndOpaqueBlackCovers := by
  refine ⟨fun palette red blue green => ?_, fun _ => rfl, rfl, rfl, fun _ _ => rfl, fun f r l q c a ha hbase hoverlay => ⟨?_, ?_⟩,
    fun _ first _ _ => read_writePalette first, fun palette _ => expandOverlay_of_ne palette (by simp),
    fun palette _ => expandOverlay_of_ne palette (by simp), fun _ => composite_of_opaque⟩
  · rw [expand_rgb565_append, ← expand5_eq_ite, ← expand5_eq_ite]
  · rintro rfl
    exact f.read_writeFill_base r q c false _ hbase ha rfl
  · rintro rfl
    exact f.read_writeFill_overlay r q c false _ hoverlay ha rfl

end Sys2Proof.Proofs
end

section
/-! SUPPORT. The writes of a FILL commit: the positions outside its intersection, the frame of the store, how many positions it
writes, and the end of the commit. -/

namespace Sys2Proof.Machine

/-! ### What the fill bank reads (R14, R106) -/

/-- A list of writes of one value: the addresses written read that value, and every other address reads as before. -/
theorem Memory.read_writeAll_const_eq_ite {α : Type} [DecidableEq α] {d : α} {m : Memory α} (h : Memory.wf d m) (as : List Nat)
    (v : α) (j : Nat) :
    Memory.read d (m.writeAll d (as.map fun a => (a, v))) j = if j ∈ as then v else Memory.read d m j := by
  split
  case isTrue hj => exact Memory.read_writeAll_const h hj v
  case isFalse hj =>
    refine Memory.read_writeAll_of_not_mem _ h j fun c hc hcj => hj ?_
    obtain ⟨a, ha, rfl⟩ := List.mem_map.1 hc
    exact hcj ▸ ha

/-- A whole FILL on the base gives its colour to its intersection and to no other position. -/
theorem FrameStore.read_writeFill_base_eq_ite (f : FrameStore) (r : Record) (q : Rect) (color : Color) (transparent : Bool)
    (hwf : Memory.wf Color.black f.baseFill) (a : Nat) :
    Memory.read Color.black (f.writeFill r .base q color transparent fun _ => true).baseFill a =
      if a ∈ r.intersectionAddresses q then color else Memory.read Color.black f.baseFill a := by
  simp only [FrameStore.writeFill, FrameStore.baseFill_setBaseFill, List.filter_true]
  exact Memory.read_writeAll_const_eq_ite hwf _ color a

/-- A whole FILL on the overlay gives its pixel, opaque or transparent, to its intersection and to no other position. -/
theorem FrameStore.read_writeFill_overlay_eq_ite (f : FrameStore) (r : Record) (q : Rect) (color : Color) (transparent : Bool)
    (hwf : Memory.wf OverlayPixel.clear f.overlayFill) (a : Nat) :
    Memory.read OverlayPixel.clear (f.writeFill r .overlay q color transparent fun _ => true).overlayFill a =
      if a ∈ r.intersectionAddresses q then (if transparent then OverlayPixel.clear else ⟨color, true⟩)
      else Memory.read OverlayPixel.clear f.overlayFill a := by
  simp only [FrameStore.writeFill, FrameStore.overlayFill_setOverlayFill, List.filter_true]
  exact Memory.read_writeAll_const_eq_ite hwf _ _ a

/-! ### What a write of a fill bank leaves unchanged (R9) -/

section
variable (f : FrameStore) (m : Memory Color)

theorem FrameStore.setBaseFill_eq :
    f.setBaseFill m = { f with baseA := (f.setBaseFill m).baseA, baseB := (f.setBaseFill m).baseB } := by
  unfold FrameStore.setBaseFill
  split <;> rfl

@[simp] theorem FrameStore.setBaseFill_shownBase : (f.setBaseFill m).shownBase = f.shownBase := by
  rw [FrameStore.setBaseFill_eq]

@[simp] theorem FrameStore.setBaseFill_shownOverlay : (f.setBaseFill m).shownOverlay = f.shownOverlay := by
  rw [FrameStore.setBaseFill_eq]

@[simp] theorem FrameStore.setBaseFill_overlay (bank : Bank) : (f.setBaseFill m).overlay bank = f.overlay bank := by
  rw [FrameStore.setBaseFill_eq]
  cases bank <;> rfl

@[simp] theorem FrameStore.setBaseFill_base_shownBase : (f.setBaseFill m).base f.shownBase = f.base f.shownBase := by
  cases h : f.shownBase <;> simp only [FrameStore.setBaseFill, FrameStore.base, h]

end

section
variable (f : FrameStore) (m : Memory OverlayPixel)

theorem FrameStore.setOverlayFill_eq :
    f.setOverlayFill m =
      { f with overlayA := (f.setOverlayFill m).overlayA, overlayB := (f.setOverlayFill m).overlayB } := by
  unfold FrameStore.setOverlayFill
  split <;> rfl

@[simp] theorem FrameStore.setOverlayFill_shownBase : (f.setOverlayFill m).shownBase = f.shownBase := by
  rw [FrameStore.setOverlayFill_eq]

@[simp] theorem FrameStore.setOverlayFill_shownOverlay : (f.setOverlayFill m).shownOverlay = f.shownOverlay := by
  rw [FrameStore.setOverlayFill_eq]

@[simp] theorem FrameStore.setOverlayFill_base (bank : Bank) : (f.setOverlayFill m).base bank = f.base bank := by
  rw [FrameStore.setOverlayFill_eq]
  cases bank <;> rfl

@[simp] theorem FrameStore.setOverlayFill_overlay_shownOverlay :
    (f.setOverlayFill m).overlay f.shownOverlay = f.overlay f.shownOverlay := by
  cases h : f.shownOverlay <;> simp only [FrameStore.setOverlayFill, FrameStore.overlay, h]

end

section
variable (f : FrameStore) (r : Record) (l : Layer) (q : Rect) (color : Color) (transparent : Bool) (p : Nat → Bool)

/-- A FILL writes banks and nothing else of the Frame Store. -/
theorem FrameStore.writeFill_eq :
    f.writeFill r l q color transparent p =
      { f with baseA := (f.writeFill r l q color transparent p).baseA, baseB := (f.writeFill r l q color transparent p).baseB
               overlayA := (f.writeFill r l q color transparent p).overlayA
               overlayB := (f.writeFill r l q color transparent p).overlayB } := by
  cases l with
  | base =>
    simp only [FrameStore.writeFill]
    rw [FrameStore.setBaseFill_eq]
  | overlay =>
    simp only [FrameStore.writeFill]
    rw [FrameStore.setOverlayFill_eq]

@[simp] theorem FrameStore.writeFill_request : (f.writeFill r l q color transparent p).request = f.request := by
  rw [FrameStore.writeFill_eq]

theorem FrameStore.writeFill_base_shownBase :
    (f.writeFill r l q color transparent p).base (f.writeFill r l q color transparent p).shownBase = f.base f.shownBase := by
  cases l <;> simp [FrameStore.writeFill]

theorem FrameStore.writeFill_overlay_shownOverlay :
    (f.writeFill r l q color transparent p).overlay (f.writeFill r l q color transparent p).shownOverlay =
      f.overlay f.shownOverlay := by
  cases l <;> simp [FrameStore.writeFill]

theorem FrameStore.overlayFill_writeFill_base : (f.writeFill r .base q color transparent p).overlayFill = f.overlayFill := by
  simp [FrameStore.writeFill, FrameStore.overlayFill]

theorem FrameStore.baseFill_writeFill_overlay : (f.writeFill r .overlay q color transparent p).baseFill = f.baseFill := by
  simp [FrameStore.writeFill, FrameStore.baseFill]

end

/-! ### How many positions a FILL writes (R3, R7) -/

theorem length_pixelsBetween (x0 x1 y0 y1 : Nat) : (pixelsBetween x0 x1 y0 y1).length = (y1 - y0) * (x1 - x0) := by
  simp [pixelsBetween, List.length_flatMap]

/-- A quarter rotation exchanges the viewport's extents and keeps its area. -/
theorem Record.viewHeight_mul_viewWidth (r : Record) : r.viewHeight * r.viewWidth = r.columns * r.rows := by
  unfold Record.viewHeight Record.viewWidth
  split
  · rfl
  · exact Nat.mul_comm _ _

/-- An intersection holds no more positions than the viewport, which has as many as the panel. -/
theorem Record.length_intersectionAddresses_le (r : Record) (q : Rect) :
    (r.intersectionAddresses q).length ≤ r.columns * r.rows := by
  have hheight : min (q.y + q.height) (r.originY + r.viewHeight) - max q.y r.originY ≤ r.viewHeight := by omega
  have hwidth : min (q.x + q.width) (r.originX + r.viewWidth) - max q.x r.originX ≤ r.viewWidth := by omega
  refine (List.length_filterMap_le _ _).trans ?_
  rw [length_pixelsBetween, ← r.viewHeight_mul_viewWidth]
  exact Nat.mul_le_mul hheight hwidth

/-! ### The end of a FILL commit (R104, R137) -/

theorem FrameStore.commitEnded_eq (f : FrameStore) :
    f.commitEnded = { f with request := f.request.map fun x => { x with heldCommit := false } } := by
  unfold FrameStore.commitEnded
  cases h : f.request with
  | some x => rfl
  | none => exact congrArg (fun x => { f with request := x }) h

/-- FILL_COMMIT with a FILL being committed writes it whole, removes its entry and settles. -/
theorem exec_fillCommit_of_committing {s : State} {r : Record} {tag : Tag} {l : Layer} {q : Rect} {color : Color}
    {transparent : Bool} {rest : List IntakeEntry} (hrecord : s.record = some r) (hcommitting : s.intake.committing = true)
    (hqueue : s.intake.queue = ⟨tag, .fill l q color transparent⟩ :: rest) :
    exec .fillCommit s =
      .next { s with frame := s.frame.writeFill r l q color transparent fun _ => true }.finishCommit.settle.makeMarks := by
  change execFillCommit s = _
  simp only [execFillCommit, hrecord, hcommitting, hqueue]

/-- The state that `State.finishCommit` leaves after a FILL's writes, for the settling and the marks that follow. -/
theorem State.finishCommit_writeFill {s : State} {e : IntakeEntry} {rest : List IntakeEntry} (hqueue : s.intake.queue = e :: rest)
    (r : Record) (l : Layer) (q : Rect) (color : Color) (transparent : Bool) (p : Nat → Bool) :
    State.finishCommit { s with frame := s.frame.writeFill r l q color transparent p } =
      { s with intake := { queue := rest, committing := false, palette := s.intake.palette }
               frame := { s.frame.writeFill r l q color transparent p with
                          request := s.frame.request.map fun x => { x with heldCommit := false } } } := by
  simp only [State.finishCommit, hqueue, List.tail_cons, FrameStore.commitEnded_eq, FrameStore.writeFill_request]

end Sys2Proof.Machine
end

section
/-! The statement of the commits: O43. -/

namespace Sys2Proof.Proofs

open Sys2Proof.Machine

/-- Settles O43: the commit writes the store that `FrameStore.writeFill` gives, which no palette enters, and a fill bank written with one
value over a list of addresses reads that value there and what it held before elsewhere. -/
theorem fillCommitWritesItsIntersection : Obligations.FillCommitWritesItsIntersection := by
  intro s r tag layer q color transparent rest hrecord _ hcommitting hqueue hbase hoverlay
  refine ⟨⟨s.frame.writeFill r layer q color transparent fun _ => true, fun palette => ?_, FrameStore.writeFill_eq ..,
    FrameStore.writeFill_base_shownBase .., FrameStore.writeFill_overlay_shownOverlay .., ?_, ?_⟩,
    r.length_intersectionAddresses_le q, rfl⟩
  · rw [exec_fillCommit_of_committing (s := { s with intake.palette := palette }) hrecord hcommitting hqueue,
      State.finishCommit_writeFill (s := { s with intake.palette := palette }) hqueue]
  · rintro rfl
    exact ⟨FrameStore.overlayFill_writeFill_base .., s.frame.read_writeFill_base_eq_ite r q color transparent hbase⟩
  · rintro rfl
    exact ⟨FrameStore.baseFill_writeFill_overlay .., s.frame.read_writeFill_overlay_eq_ite r q color transparent hoverlay⟩

end Sys2Proof.Proofs
end

section
/-! SUPPORT. Content commands and the flush at the local port: what settling makes of a settled station, what an act beside a completion
gives, the answers to requests without a payload, and the flush case by case. -/

namespace Sys2Proof.Machine

open Sys2Proof.Safety

/-! ### A settled station settles into itself (R57, R103, R120, R139) -/

/-- A station with nothing left undone: no flip, no beginning of a commit, no response of the barrier and no transmission follows. -/
theorem State.settleBlocks_of_settled {s : State} (h : Settled s) : s.settleBlocks = s := by
  obtain ⟨hflip, hcommit, hfilling, hreleased, hbus, -⟩ := h
  refine s.settleBlocks_of_quiet ?_ ?_ ?_ ?_
  · rcases s.tryFlip_cases with ⟨heq, -⟩ | ⟨r, q, hr, -, hdue, -⟩
    · exact heq
    · simp [hflip (by simp [hr])] at hdue
  · rcases s.beginCommit_cases with ⟨heq, -⟩ | ⟨e, rest, hq, hidle, heligible, -⟩
    · exact heq
    · simp [hcommit e (by simp [hq]) hidle] at heligible
  · rcases s.react_cases with ⟨heq, -⟩ | ⟨hm, hp, hready, -⟩ | ⟨hm, hp, hready, hforced, -⟩ | ⟨hm, hp, hready, hforced, -⟩
    · exact heq
    · simp [hfilling hm hp] at hready
    · simpa [hready, hforced] using hreleased hm (.inl hp)
    · simpa [hready, hforced] using hreleased hm hp
  · rcases s.arbitrate_cases with ⟨heq, -⟩ | ⟨t, hview, hfree, hsome, -⟩
    · exact heq
    · simp [hbus hview hfree] at hsome

/-- A station that is quiet settles into itself, but for what is kept of a completion between its last bit and its slot. -/
theorem forgetting_settle_of_quiet {s : State} (h : s.settleBlocks = s) : forgetting s.settle = forgetting s := by
  obtain ⟨x, heq, -⟩ := s.settle_eq
  rw [heq, h]
  rfl

/-- A station that is quiet settles into itself when nothing is kept of a completion. -/
theorem State.settle_of_quiet {s : State} (h : s.settleBlocks = s) (hundo : s.rx.undo = none) : s.settle = s :=
  (s.beside_of_no_undo _ _ hundo).trans h

/-! ### Acts beside a completion, answered (R28, R172) -/

/-- An act that leaves alone what is kept of a completion empties it neither in the station nor beside it. -/
theorem State.undo_of_beside {f : State → State} {s : State} (g : State → State) (hf : (f s).rx.undo = s.rx.undo)
    (h : (s.beside f g).rx.undo = none) : s.rx.undo = none := by
  cases hu : s.rx.undo with
  | none => rfl
  | some u => cases hb : u.blocks <;> simp [State.beside, hu, hb, hf] at h

/-- Settling empties nothing that is kept of a completion. -/
theorem State.undo_of_settle {s : State} (h : s.settle.rx.undo = none) : s.rx.undo = none :=
  State.undo_of_beside _ (by simp [State.settleBlocks]) h

/-- Settling reads nothing of what is kept of a completion. -/
theorem forgetting_settle_undo (s : State) (x : Option Undo) :
    forgetting (State.settle { s with rx.undo := x }) = forgetting s.settle := by
  obtain ⟨y, hy, -⟩ := State.settle_eq { s with rx.undo := x }
  obtain ⟨z, hz, -⟩ := s.settle_eq
  rw [hy, hz, State.settleBlocks_undo]
  rfl

/-- Answering reads nothing of what is kept of a completion. -/
theorem forgetting_answered {s t : State} (h : forgetting s.settle = forgetting t.settle) (response : List Byte) :
    forgetting (answered s response) = forgetting (answered t response) :=
  congrArg (fun u : State => { u with port := { u.port with response := response } }) h

/-- A command that acts beside a completion and is answered gives the answer to the station's own act. -/
theorem gives_answered_beside {f : State → State} {s : State} (g : State → State) (hf : (f s).rx.undo = s.rx.undo)
    (response : List Byte) : Gives (.next (answered (s.beside f g) response)) (answered (f s) response) := by
  refine ⟨_, rfl, ?_, fun h => ?_⟩
  · obtain ⟨x, heq, -⟩ := s.beside_eq f g
    rw [heq]
    exact forgetting_answered (forgetting_settle_undo (f s) x) response
  · rw [s.beside_of_no_undo f g (hf ▸ State.undo_of_settle h)]

/-- What a command gives may be replaced by a station that differs in what is kept of a completion alone. -/
theorem gives_congr {o : Host.Outcome State Fault Refusal} {t u : State} (h : Gives o t) (hforget : forgetting t = forgetting u)
    (heq : u.rx.undo = none → t = u) : Gives o u := by
  obtain ⟨x, ho, hx, hxt⟩ := h
  exact ⟨x, ho, hx.trans hforget, fun hu => (hxt (heq hu ▸ hu)).trans (heq hu)⟩

/-- The Local Port of the station that a command gives. -/
theorem exists_port_of_gives {o : Host.Outcome State Fault Refusal} {t : State} (h : Gives o t) :
    ∃ x, o = .next x ∧ x.port = t.port := by
  obtain ⟨x, ho, hx, -⟩ := h
  exact ⟨x, ho, (congrArg State.port hx :)⟩

/-! ### Requests without a payload (R117, R178, R181) -/

theorem inContent_of_takesContent {st : StationState} (h : TakesContent st) : inContent st = true := by
  rcases h with rfl | rfl | rfl <;> rfl

/-- A request that needs no staging places is answered by the length of the queue alone. -/
theorem State.request_result_of_no_places {s : State} {body : RequestBody} (hplaces : body.places = 0) (payload : List RawPixel)
    (hlength : s.pub.queue.length ≤ 16) :
    (s.request body payload).2 = (if s.pub.queue.length = 16 then .full else .ok, []) := by
  rcases s.takeRequest_cases body payload with ⟨hroom, -, heq⟩ | ⟨hfull, heq⟩
  · simp [State.request, heq, Nat.ne_of_lt hroom]
  · have hsixteen : s.pub.queue.length = 16 := by
      rw [hplaces] at hfull
      omega
    simp [State.request, heq, hsixteen]

@[simp] theorem State.request_phase (s : State) (body : RequestBody) (payload : List RawPixel) :
    (s.request body payload).1.port.phase = s.port.phase := by
  rcases s.takeRequest_cases body payload with ⟨-, -, heq⟩ | ⟨-, heq⟩ <;> simp [State.request, heq]

/-- A content command without parameter bytes whose request needs no staging places is answered at its command byte: FULL when the
queue holds 16 requests, and OK otherwise. -/
theorem State.receive_request_of_no_places {s : State} {body : RequestBody} (code : Byte) (hphase : s.port.phase = .command)
    (hstation : TakesContent s.join.station) (hlength : s.pub.queue.length ≤ 16) (hplaces : body.places = 0) :
    let t := s.receive code [] (fun _ => 0) inContent fun _ u => u.request body []
    t.port.phase = .response ∧ t.port.response = [if s.pub.queue.length = 16 then 0x01 else 0x00] := by
  rw [State.receive_of_listed hphase (Nat.zero_le _) (inContent_of_takesContent hstation)]
  refine ⟨?_, ?_⟩
  · simp [State.taking]
  · have hresult := State.request_result_of_no_places (s := s.taking code [] 0) hplaces [] hlength
    simp only [hresult]
    by_cases hfull : s.pub.queue.length = 16 <;> simp [State.taking, hfull, Result.byte]

/-! ### The flush (R129, R181) -/

/-- A flush changes the Publisher and the event flags alone. -/
theorem State.flushQueue_frame (s : State) :
    ∃ (p : Publisher) (events : BitVec 11), s.flushQueue = { s with pub := p, port.events := events } := by
  rcases s.flushQueue_cases with ⟨-, -, heq⟩ | ⟨-, -, heq⟩ | ⟨-, heq⟩
  · exact ⟨_, _, heq⟩
  · rw [State.spaceFreed_eq] at heq
    exact ⟨_, _, heq⟩
  · dsimp only at heq
    split at heq
    · rw [State.spaceFreed_eq] at heq
      exact ⟨_, _, heq⟩
    · exact ⟨_, _, heq⟩

@[simp] theorem State.flushQueue_rx (s : State) : s.flushQueue.rx = s.rx := by
  obtain ⟨p, events, heq⟩ := s.flushQueue_frame
  rw [heq]

@[simp] theorem State.flushQueue_phase (s : State) : s.flushQueue.port.phase = s.port.phase := by
  obtain ⟨p, events, heq⟩ := s.flushQueue_frame
  rw [heq]

/-- With no request in the queue, and so none in transmission, a flush removes nothing. -/
theorem State.flushQueue_of_empty {s : State} (hidle : s.pub.sendingRequest = false) (hqueue : s.pub.queue = []) :
    s.flushQueue = s := by
  simp [State.flushQueue, hidle, hqueue]

/-- With no request in transmission, a flush removes all of them. -/
theorem State.flushQueue_of_idle {s : State} (hidle : s.pub.sendingRequest = false) (hqueue : s.pub.queue ≠ []) :
    s.flushQueue =
      { s with pub := { s.pub with queue := [], spaceWanted := false }
               port.events := if s.pub.spaceWanted then s.port.events ||| 0x020 else s.port.events } := by
  rcases s.flushQueue_cases with ⟨-, hempty, -⟩ | ⟨-, -, heq⟩ | ⟨hsending, -⟩
  · exact absurd hempty hqueue
  · rw [heq, State.spaceFreed_eq]
  · simp [hidle] at hsending

/-- With the head in transmission, a flush marks the transmission and removes the rest, which frees space when there is a rest. -/
theorem State.flushQueue_of_sending {s : State} {q : Request} {rest : List Request} {t : Transmission}
    (hqueue : s.pub.queue = q :: rest) (htransmission : s.pub.transmission = some t) (hsource : t.source = .request) :
    s.flushQueue =
      { s with pub := { s.pub with
                 queue := [q], stagingNext := s.pub.nextAfterHead, transmission := some { t with flush := true }
                 spaceWanted := s.pub.spaceWanted && rest.isEmpty }
               port.events := if s.pub.spaceWanted && !rest.isEmpty then s.port.events ||| 0x020 else s.port.events } := by
  have hsending : s.pub.sendingRequest = true := by simp [Publisher.sendingRequest, htransmission, hsource]
  cases rest with
  | nil => simp [State.flushQueue, hsending, hqueue, htransmission]
  | cons q' rest => simp [State.flushQueue, hsending, hqueue, htransmission, State.spaceFreed_eq]

/-- FLUSH_QUEUE is taken at its command byte in every station state, acts in the station and beside it, and is answered OK. -/
theorem exec_flushQueue_of_command {s : State} (hphase : s.port.phase = .command) :
    exec .flushQueue s =
      .next (answered ((s.taking 0x26 [] 0).beside State.flushQueue State.flushQueue) [0x00]) := by
  change execFlushQueue s = _
  rw [execFlushQueue, State.receive_of_listed hphase (Nat.zero_le _) rfl]
  rfl

/-- FLUSH_QUEUE gives the answer to the flush of the station's own queue. -/
theorem gives_flushQueue {s : State} (hphase : s.port.phase = .command) :
    Gives (exec .flushQueue s) (answered (s.taking 0x26 [] 0).flushQueue [0x00]) := by
  rw [exec_flushQueue_of_command hphase]
  exact gives_answered_beside _ (by simp) _

end Sys2Proof.Machine
end

section
/-! The statement of END_FRAME, WITHDRAW and FLUSH_QUEUE: O20. -/

namespace Sys2Proof.Proofs

open Sys2Proof.Machine Sys2Proof.Safety

/-- In a station in order, no request is in transmission while the queue is empty (R120). -/
theorem sendingRequest_eq_false_of_empty {s : State} (h : TransmissionWf s) (hqueue : s.pub.queue = []) :
    s.pub.sendingRequest = false := by
  cases ht : s.pub.transmission with
  | none => simp [Publisher.sendingRequest, ht]
  | some t =>
    obtain ⟨-, -, hrequest⟩ := h t ht
    have hsource : t.source ≠ .request := fun hs => hrequest hs hqueue
    simp [Publisher.sendingRequest, ht, hsource]

/-- In a settled station in order and without requests, FLUSH_QUEUE is taken and answered, and nothing else changes. -/
theorem gives_flushQueue_of_empty {s : State} (hphase : s.port.phase = .command) (hqueue : s.pub.queue = []) (hwall : WallWf s)
    (hsettled : Settled s) : Gives (exec .flushQueue s) (taken s [0x26] [0x00]) := by
  obtain ⟨⟨-, -, -, htransmission, -⟩, -⟩ := hwall
  have hflush : (s.taking 0x26 [] 0).flushQueue = s.taking 0x26 [] 0 :=
    State.flushQueue_of_empty (sendingRequest_eq_false_of_empty htransmission hqueue) hqueue
  have hquiet : (s.taking 0x26 [] 0).settleBlocks = s.taking 0x26 [] 0 := State.settleBlocks_of_settled hsettled
  have hgives := gives_flushQueue hphase
  rw [hflush] at hgives
  refine gives_congr hgives ?_ fun hundo => ?_
  · exact congrArg (fun u : State => { u with port := { u.port with response := [0x00] } }) (forgetting_settle_of_quiet hquiet)
  · rw [answered, State.settle_of_quiet hquiet hundo]
    rfl

/-- Settles O20: the two requests by the length of the queue alone, since neither takes staging places, and the flush by the three cases
of the queue, with what a truncation takes back left to the model's own field. -/
theorem endFrameWithdrawAndFlushQueueAnswers : Obligations.EndFrameWithdrawAndFlushQueueAnswers := by
  refine fun s hphase => ⟨fun hstation hlength _ c hc => ?_, ?_, gives_flushQueue_of_empty hphase, fun hqueue hidle => ?_,
    fun q rest t hqueue htransmission hsource => ?_⟩
  · rcases hc with rfl | rfl
    · exact ⟨_, rfl, State.receive_request_of_no_places 0x24 hphase hstation hlength rfl⟩
    · exact ⟨_, rfl, State.receive_request_of_no_places 0x25 hphase hstation hlength rfl⟩
  · obtain ⟨t, heq, hport⟩ := exists_port_of_gives (gives_flushQueue hphase)
    exact ⟨t, heq, by simp [hport, answered, State.taking], by simp [hport, answered]⟩
  · have hgives := gives_flushQueue hphase
    rwa [State.flushQueue_of_idle (s := s.taking 0x26 [] 0) hidle hqueue] at hgives
  · have hgives := gives_flushQueue hphase
    rwa [State.flushQueue_of_sending (s := s.taking 0x26 [] 0) hqueue htransmission hsource] at hgives

end Sys2Proof.Proofs
end

section
/-! SUPPORT. The blocks that each shared operation changes, once for each operation: the state after it is the state before it but for
those blocks. -/

namespace Sys2Proof.Machine

/-! ### Counting, raising and the Publisher's removals -/

theorem State.raiseIf_blocks (s : State) (b : Bool) (e : Event) : ∃ q, s.raiseIf b e = { s with port := q } := by
  cases b <;> exact ⟨_, rfl⟩

theorem State.countIf_blocks (s : State) (b : Bool) (k : Counter) : ∃ q, s.countIf b k = { s with port := q } := by
  cases b <;> exact ⟨_, rfl⟩

theorem State.withRoster_blocks (s : State) (c : RosterChange) :
    ∃ q, s.withRoster c = { s with roster := c.roster, port := q } := by
  obtain ⟨q, h, -⟩ := s.withRoster_eq c
  exact ⟨q, h⟩

theorem State.spaceFreed_blocks (s : State) : ∃ p q, s.spaceFreed = { s with pub := p, port := q } := ⟨_, _, s.spaceFreed_eq⟩

theorem State.removeHead_blocks (s : State) : ∃ p q, s.removeHead = { s with pub := p, port := q } := by
  unfold State.removeHead
  split
  · exact ⟨_, _, rfl⟩
  · obtain ⟨p, q, h⟩ := State.spaceFreed_blocks { s with pub.queue := _ }
    exact ⟨p, q, h⟩

theorem State.holdIf_blocks (s : State) (b : Bool) : ∃ p, s.holdIf b = { s with pub := p } := by
  cases b <;> exact ⟨_, rfl⟩

theorem State.attempt_blocks (s : State) : ∃ p, s.attempt = { s with pub := p } := by
  unfold State.attempt
  split <;> exact ⟨_, rfl⟩

theorem State.resend_blocks (s : State) : ∃ p, s.resend = { s with pub := p } := by
  unfold State.resend
  split <;> exact ⟨_, rfl⟩

theorem State.failedAttempt_blocks (s : State) (x : Request) : ∃ p q, s.failedAttempt x = { s with pub := p, port := q } := by
  unfold State.failedAttempt
  split
  · obtain ⟨p, h⟩ := s.attempt_blocks
    exact ⟨p, _, h⟩
  · obtain ⟨p, q, h⟩ := s.removeHead_blocks
    obtain ⟨p', h'⟩ := ((s.removeHead.count .dropped).raise .drop).holdIf_blocks (decide (x.body = .endFrame))
    rw [h', h]
    exact ⟨_, _, rfl⟩

/-- The outcome of a request's transmission is the Publisher's and the Local Port's (R122–R129). -/
theorem State.requestReport_blocks (s : State) (t : Transmission) (x : Request) (r : Report) :
    ∃ p q, s.requestReport t x r = { s with pub := p, port := q } := by
  have hremove := s.removeHead_blocks
  have hovertaken : ∃ p q, (if t.flush || decide (x.body = .endFrame) then s.removeHead else s.resend) =
      { s with pub := p, port := q } := by
    obtain ⟨p, hresend⟩ := s.resend_blocks
    split
    · exact hremove
    · exact ⟨p, _, hresend⟩
  have hleaves (k : Counter) : ∃ p q, (s.removeHead.count k).holdIf (decide (x.body = .endFrame)) = { s with pub := p, port := q } := by
    obtain ⟨p, q, h⟩ := hremove
    obtain ⟨p', h'⟩ := (s.removeHead.count k).holdIf_blocks (decide (x.body = .endFrame))
    rw [h', h]
    exact ⟨_, _, rfl⟩
  cases r with
  | lost =>
    unfold State.requestReport
    dsimp only
    split
    · exact hremove
    · exact ⟨_, _, rfl⟩
  | delivered =>
    unfold State.requestReport
    dsimp only
    split
    · exact hovertaken
    · exact hleaves .sent
  | refused =>
    unfold State.requestReport
    dsimp only
    split
    · exact hovertaken
    · split
      · exact hleaves .refusedTx
      · obtain ⟨p, q, h⟩ := (s.count .refusedTx).failedAttempt_blocks x
        exact ⟨p, q, h⟩
  | bitError =>
    unfold State.requestReport
    dsimp only
    split
    · exact hovertaken
    · split
      · obtain ⟨p, q, h⟩ := hremove
        obtain ⟨p', h'⟩ := s.removeHead.holdIf_blocks (decide (x.body = .endFrame))
        rw [h', h]
        exact ⟨_, _, rfl⟩
      · exact s.failedAttempt_blocks x

/-- Entry to OBSERVER changes the blocks that R163 and R164 name. -/
theorem State.enterObserver_blocks (s : State) (reason : ObserverReason) :
    ∃ j l b p q, s.enterObserver reason = { s with join := j, link := l, barrier := b, pub := p, port := q } :=
  ⟨_, _, _, _, _, rfl⟩

theorem State.joinReport_blocks (s : State) (r : Report) :
    ∃ j l b p q, s.joinReport r = { s with join := j, link := l, barrier := b, pub := p, port := q } := by
  have hfailed (u : State) : ∃ j l b p q, u.joinFailed = { u with join := j, link := l, barrier := b, pub := p, port := q } := by
    unfold State.joinFailed
    dsimp only
    split <;> exact ⟨_, _, _, _, _, rfl⟩
  cases r with
  | lost => exact ⟨_, _, _, _, _, rfl⟩
  | bitError => exact hfailed s
  | delivered => exact ⟨_, _, _, _, _, rfl⟩
  | refused =>
    obtain ⟨j, l, b, p, q, h⟩ := hfailed (s.count .refusedTx)
    exact ⟨j, l, b, p, q, h⟩

theorem State.welcomeReport_blocks (s : State) (r : Report) : ∃ q, s.welcomeReport r = { s with port := q } := by
  cases r <;> exact ⟨_, rfl⟩

/-- A report reaches the Publisher, and with a JOIN's outcome the Join Controller and what an entry to OBSERVER changes (R121). -/
theorem State.report_blocks (s : State) (r : Report) :
    ∃ j l b p q, s.report r = { s with join := j, link := l, barrier := b, pub := p, port := q } := by
  rcases s.report_cases r with ⟨-, h⟩ | ⟨t, -, h⟩
  · exact ⟨_, _, _, _, _, h⟩
  · rcases h with ⟨-, h⟩ | ⟨-, h⟩ | ⟨-, -, h⟩ | ⟨x, rest, -, -, h⟩
    · obtain ⟨j, l, b, p, q, h'⟩ := State.joinReport_blocks { s with pub.transmission := none } r
      rw [h, h']
      exact ⟨_, _, _, _, _, rfl⟩
    · obtain ⟨q, h'⟩ := State.welcomeReport_blocks { s with pub.transmission := none } r
      rw [h, h']
      exact ⟨_, _, _, _, _, rfl⟩
    · exact ⟨_, _, _, _, _, h⟩
    · obtain ⟨p, q, h'⟩ := State.requestReport_blocks { s with pub.transmission := none } t x r
      rw [h, h']
      exact ⟨_, _, _, _, _, rfl⟩

theorem State.stopDriving_blocks (s : State) (r : Report) :
    ∃ j l b p q, s.stopDriving r = { s with join := j, link := l, barrier := b, pub := p, port := q } := by
  obtain ⟨j, l, b, p, q, h⟩ := s.report_blocks r
  unfold State.stopDriving
  rw [h]
  exact ⟨_, _, _, _, _, rfl⟩

theorem State.flushQueue_blocks (s : State) : ∃ p q, s.flushQueue = { s with pub := p, port := q } := by
  obtain ⟨p, events, h⟩ := s.flushQueue_frame
  exact ⟨_, _, h⟩

theorem State.takeRequest_blocks (s : State) (body : RequestBody) (payload : List RawPixel) :
    ∃ p, (s.takeRequest body payload).1 = { s with pub := p } := by
  rcases s.takeRequest_cases body payload with ⟨-, -, h⟩ | ⟨-, h⟩ <;> rw [h] <;> exact ⟨_, rfl⟩

/-! ### Settling -/

/-- The flip touches the Frame Store and the port (R140). -/
theorem State.tryFlip_blocks (s : State) : ∃ f q, s.tryFlip = { s with frame := f, port := q } := by
  rcases s.tryFlip_cases with ⟨h, -⟩ | ⟨r, x, -, -, -, h⟩
  · exact ⟨_, _, h⟩
  · obtain ⟨q, h'⟩ := ({ s with frame := s.frame.flip r x }.raise .shown).raiseIf_blocks x.damage .damage
    rw [h, h']
    exact ⟨_, _, rfl⟩

theorem State.beginCommit_blocks (s : State) : ∃ i, s.beginCommit = { s with intake := i } := by
  rcases s.beginCommit_cases with ⟨h, -⟩ | ⟨e, rest, -, -, -, h⟩ <;> rw [h] <;> exact ⟨_, rfl⟩

/-- The barrier's response touches the Barrier Unit and the port (R57–R61). -/
theorem State.react_blocks (s : State) : ∃ b q, s.react = { s with barrier := b, port := q } := by
  rcases s.react_cases with ⟨h, -⟩ | ⟨-, -, -, h⟩ | ⟨-, -, -, -, -, h⟩ | ⟨-, -, -, -, -, h⟩ <;> rw [h] <;> exact ⟨_, _, rfl⟩

theorem State.arbitrate_blocks (s : State) : ∃ l p, s.arbitrate = { s with link := l, pub := p } := by
  rcases s.arbitrate_cases with ⟨h, -⟩ | ⟨t, -, -, -, h⟩ <;> rw [h] <;> exact ⟨_, _, rfl⟩

theorem State.settleBlocks_blocks (s : State) :
    ∃ l i b p f q, s.settleBlocks = { s with link := l, intake := i, barrier := b, pub := p, frame := f, port := q } := by
  obtain ⟨f, q, h₁⟩ := s.tryFlip_blocks
  obtain ⟨i, h₂⟩ := s.tryFlip.beginCommit_blocks
  obtain ⟨b, q', h₃⟩ := s.tryFlip.beginCommit.react_blocks
  obtain ⟨l, p, h₄⟩ := s.tryFlip.beginCommit.react.arbitrate_blocks
  unfold State.settleBlocks
  rw [h₄, h₃, h₂, h₁]
  exact ⟨_, _, _, _, _, _, rfl⟩

/-! ### The Barrier Unit's timers and the swap edge -/

theorem State.reachPeriod_blocks (s : State) : ∃ b q, s.reachPeriod = { s with barrier := b, port := q } := by
  unfold State.reachPeriod
  split
  · obtain ⟨b, q, h⟩ := State.react_blocks { s with barrier.timer := s.period }
    exact ⟨b, q, h⟩
  · exact ⟨_, _, rfl⟩

theorem State.reachHold_blocks (s : State) : ∃ b q, s.reachHold = { s with barrier := b, port := q } := by
  obtain ⟨b, q, h⟩ := s.reachPeriod_blocks
  unfold State.reachHold
  dsimp only
  split
  · split <;> rw [h] <;> exact ⟨_, _, rfl⟩
  · exact ⟨b, q, h⟩

theorem State.holdReached_blocks (s : State) : ∃ b q, s.holdReached = { s with barrier := b, port := q } := by
  obtain ⟨b, q, h⟩ := s.reachHold_blocks
  rcases s.holdReached_cases with ⟨-, h'⟩ | ⟨-, h'⟩ <;> rw [h', h] <;> exact ⟨_, _, rfl⟩

theorem State.reachStall_blocks (s : State) : ∃ b q, s.reachStall = { s with barrier := b, port := q } := by
  obtain ⟨b, q, h⟩ := s.reachHold_blocks
  unfold State.reachStall
  dsimp only
  split
  · split <;> rw [h] <;> exact ⟨_, _, rfl⟩
  · exact ⟨b, q, h⟩

theorem State.electricalFault_blocks (s : State) : ∃ b q, s.electricalFault = { s with barrier := b, port := q } := by
  unfold State.electricalFault
  split <;> exact ⟨_, _, rfl⟩

/-- Of the Frame Store an edge changes the request, the layer states and the mark that is due (R138). -/
theorem FrameStore.edge_blocks (f : FrameStore) (closing : Option Tag) (committing : Bool) :
    ∃ x y z, f.edge closing committing = { f with request := x, baseState := y, overlayState := z } := ⟨_, _, _, rfl⟩

/-- A swap edge leaves the record, the digest, the palette, the staging store and the bus alone (R66–R69). -/
theorem State.swapEdge_blocks (s : State) :
    ∃ (p : Publisher), ∃ j x ro i b q f₁ f₂ f₃ f₄, s.swapEdge =
      { s with join := j, rx := x, roster := ro, intake := { s.intake with queue := i }, barrier := b,
               pub := { p with staging := s.pub.staging, stagingNext := s.pub.stagingNext }, port := q,
               frame := { s.frame with request := f₁, baseState := f₂, overlayState := f₃, markDue := f₄ } } := by
  obtain ⟨q, hmoves, -, -⟩ := s.edgeMoves_eq
  rcases s.swapEdge_cases with ⟨-, h⟩ | ⟨-, -, h⟩ | ⟨-, -, h⟩
  · rw [h, hmoves]
    exact ⟨s.pub.edge, _, _, _, _, _, _, _, _, _, _, rfl⟩
  · rcases s.edgeMoves.markDamage_cases with ⟨x, -, h'⟩ | ⟨-, h'⟩ <;> rw [h, h', hmoves] <;>
      exact ⟨s.pub.edge, _, _, _, _, _, _, _, _, _, _, rfl⟩
  · rw [h, hmoves]
    exact ⟨s.pub.edge, _, _, _, _, _, _, _, _, _, _, rfl⟩

theorem State.riseBlocks_blocks (s : State) :
    ∃ (p : Publisher), ∃ j x ro i b q f₁ f₂ f₃ f₄, s.riseBlocks =
      { s with join := j, rx := x, roster := ro, intake := { s.intake with queue := i }, barrier := b,
               pub := { p with staging := s.pub.staging, stagingNext := s.pub.stagingNext }, port := q,
               frame := { s.frame with request := f₁, baseState := f₂, overlayState := f₃, markDue := f₄ } } := by
  rcases s.riseBlocks_cases with h | h | h | h
  · rw [h]
    exact s.swapEdge_blocks
  · obtain ⟨b, q, h'⟩ := s.electricalFault_blocks
    rw [h, h']
    exact ⟨s.pub, _, _, _, _, _, _, _, _, _, _, rfl⟩
  · rw [h]
    exact ⟨s.pub, _, _, _, _, _, _, _, _, _, _, rfl⟩
  · exact ⟨s.pub, _, _, _, _, _, _, _, _, _, _, h⟩

theorem State.markDamage_blocks (s : State) :
    ∃ x q, s.markDamage = { s with frame := { s.frame with request := x }, port := q } := by
  rcases s.markDamage_cases with ⟨x, -, h⟩ | ⟨-, h⟩ <;> rw [h] <;> exact ⟨_, _, rfl⟩

theorem State.makeMarks_blocks (s : State) :
    ∃ x y q, s.makeMarks = { s with frame := { s.frame with request := x, markDue := y }, port := q } := by
  rcases s.makeMarks_cases with ⟨-, h⟩ | ⟨-, x, -, h⟩ | ⟨-, -, h⟩ <;> rw [h] <;> exact ⟨_, _, _, rfl⟩

theorem State.endRedrive_blocks (s : State) : ∃ b, s.endRedrive = { s with barrier := b } := by
  unfold State.endRedrive
  split <;> exact ⟨_, rfl⟩

/-! ### The welcome wait and the timers together -/

theorem State.welcomeExpired_blocks (s : State) : ∃ j b q, s.welcomeExpired = { s with join := j, barrier := b, port := q } := by
  unfold State.welcomeExpired
  split
  · split <;> exact ⟨_, _, _, rfl⟩
  · exact ⟨_, _, _, rfl⟩

theorem State.tickFrame_blocks (s : State) : ∃ b q, s.tickFrame = { s with barrier := b, port := q } := by
  unfold State.tickFrame
  dsimp only
  split
  · split
    · exact s.reachPeriod_blocks
    · split
      · exact s.reachHold_blocks
      · split
        · exact s.reachStall_blocks
        · exact ⟨_, _, rfl⟩
  · exact ⟨_, _, rfl⟩

/-! ### The Receiver and the Link Unit -/

theorem State.findDuplicate_blocks (s : State) :
    ∃ j l b p q, s.findDuplicate = { s with join := j, link := l, barrier := b, pub := p, port := q } := by
  unfold State.findDuplicate
  split <;> exact ⟨_, _, _, _, _, rfl⟩

theorem State.adopt_blocks (s : State) (before : StationState) (tag : Tag) : ∃ b, s.adopt before tag = { s with barrier := b } := by
  unfold State.adopt
  split <;> exact ⟨_, rfl⟩

theorem State.takeWelcome_blocks (s : State) (tag : Tag) : ∃ j b, s.takeWelcome tag = { s with join := j, barrier := b } := by
  unfold State.takeWelcome
  split <;> exact ⟨_, _, rfl⟩

theorem State.classifyTagged_blocks (s : State) (before : StationState) (r : Record) (id : Identity) (tag : Tag) (body : BurstBody) :
    ∃ l o b q, s.classifyTagged before r id tag body = { s with link := l, rx := { s.rx with outcome := o }, barrier := b, port := q } := by
  obtain ⟨b, h⟩ := s.adopt_blocks before tag
  unfold State.classifyTagged
  dsimp only
  rw [h]
  split <;> exact ⟨_, _, _, _, rfl⟩

theorem State.classifyJoin_blocks (s : State) (own : Bool) (id : Identity) (digest : BitVec 16) :
    ∃ j l o q, s.classifyJoin own id digest = { s with join := j, link := l, rx := { s.rx with outcome := o }, port := q } := by
  unfold State.classifyJoin
  dsimp only
  split <;> exact ⟨_, _, _, _, rfl⟩

theorem State.classifyBody_blocks (s : State) (before : StationState) (r : Record) (own : Bool) (id : Identity) (tag : Tag)
    (body : BurstBody) :
    ∃ j l o b q, s.classifyBody before r own id tag body =
      { s with join := j, link := l, rx := { s.rx with outcome := o }, barrier := b, port := q } := by
  have htagged (u : State) (body : BurstBody) := u.classifyTagged_blocks before r id tag body
  unfold State.classifyBody
  cases body with
  | join digest =>
    obtain ⟨j, l, o, q, h⟩ := s.classifyJoin_blocks own id digest
    exact ⟨_, _, _, _, _, h⟩
  | withdraw => exact ⟨_, _, _, _, _, rfl⟩
  | welcome =>
    obtain ⟨j, b, h⟩ := s.takeWelcome_blocks tag
    obtain ⟨l, o, b', q, h'⟩ := htagged (s.takeWelcome tag) .welcome
    dsimp only
    rw [h', h]
    exact ⟨_, _, _, _, _, rfl⟩
  | endFrame | look | content =>
    obtain ⟨l, o, b, q, h⟩ := htagged s _
    exact ⟨_, _, _, _, _, h⟩

/-- The classification touches no store, no queue but the Publisher's, and of the Receiver the pending outcome alone (R51). -/
theorem State.classify_blocks (s : State) (r : Record) (own : Bool) :
    ∃ j l o b p q, s.classify r own =
      { s with join := j, link := l, rx := { s.rx with outcome := o }, barrier := b, pub := p, port := q } := by
  unfold State.classify
  split
  · obtain ⟨j, l, b, p, q, hfound⟩ := s.findDuplicate_blocks
    dsimp only
    generalize hu : (if senderIn (byteAt s.rx.body 0) = r.station ∧ own = false then s.findDuplicate else s) = u
    obtain ⟨j, l, b, p, q, hu⟩ : ∃ j l b p q, u = { s with join := j, link := l, barrier := b, pub := p, port := q } := by
      rw [← hu]
      split
      · exact ⟨_, _, _, _, _, hfound⟩
      · exact ⟨_, _, _, _, _, rfl⟩
    split
    · rw [hu]
      exact ⟨_, _, _, _, _, _, rfl⟩
    · rename_i body _
      obtain ⟨j, l, o, b, q, h⟩ := u.classifyBody_blocks s.join.station r own
        ⟨senderIn (byteAt s.rx.body 0), kindIn (byteAt s.rx.body 0), s.rx.running⟩ (tagIn (byteAt s.rx.body 1)) body
      rw [h, hu]
      exact ⟨_, _, _, _, _, _, rfl⟩
  · exact ⟨_, _, _, _, _, _, rfl⟩

theorem State.complete_blocks (s : State) :
    ∃ j l o x b p q, s.complete =
      { s with join := j, link := l, rx := { s.rx with outcome := o, undo := x }, barrier := b, pub := p, port := q } := by
  rcases Option.eq_none_or_eq_some s.record with hr | ⟨r, hr⟩
  · have h : s.complete = s := by simp only [State.complete, hr]
    exact ⟨_, _, _, _, _, _, _, h⟩
  · obtain ⟨t, x, ht, h, -⟩ := s.complete_eq r hr
    obtain ⟨j, l, o, b, p, q, h'⟩ := State.classify_blocks { s with link := { s.link with atSlot := true } } r s.pub.transmission.isSome
    rw [h, ht, h']
    exact ⟨_, _, _, _, _, _, _, rfl⟩

/-- A byte handed over reaches the receive buffer alone: the pending outcome, what a truncation takes back and the missed list stay
(R36). -/
theorem Receiver.takeByte_eq (r : Receiver) (b : Byte) :
    r.takeByte b = { r.takeByte b with outcome := r.outcome, undo := r.undo, missed := r.missed, overflow := r.overflow } := by
  cases h : r.bodyLength <;> simp only [Receiver.takeByte, h] <;> split <;> rfl

theorem Receiver.takeBit_eq (r : Receiver) (bit : Bool) :
    r.takeBit bit = { r.takeBit bit with outcome := r.outcome, undo := r.undo, missed := r.missed, overflow := r.overflow } := by
  unfold Receiver.takeBit
  dsimp only
  split
  · rfl
  · exact Receiver.takeByte_eq _ _

theorem State.takeBit_blocks (s : State) (bit : Bool) :
    ∃ j l x b p q, s.takeBit bit = { s with join := j, link := l, rx := x, barrier := b, pub := p, port := q } := by
  unfold State.takeBit
  dsimp only
  split
  · obtain ⟨j, l, o, x, b, p, q, h⟩ := State.complete_blocks { s with link.bitOpen := false, rx := s.rx.takeBit bit }
    rw [h]
    exact ⟨_, _, _, _, _, _, rfl⟩
  · exact ⟨_, _, _, _, _, _, rfl⟩

theorem State.ensureBit_blocks (s : State) : ∃ l, s.ensureBit = { s with link := l } := by
  unfold State.ensureBit
  split <;> exact ⟨_, rfl⟩

theorem State.ensureSlot_blocks (s : State) : ∃ l q, s.ensureSlot = { s with link := l, port := q } := by
  unfold State.ensureSlot State.beginSlot
  split
  · exact ⟨_, _, rfl⟩
  · split <;> exact ⟨_, _, rfl⟩

theorem State.carryRoster_blocks (s : State) (id : Identity) (p : RosterPart) :
    ∃ ro q, s.carryRoster id p = { s with roster := ro, port := q } := by
  unfold State.carryRoster
  split
  · exact ⟨_, _, rfl⟩
  · obtain ⟨q, h⟩ := s.withRoster_blocks (rosterOnBurst s.roster id.sender id.kind)
    dsimp only
    rw [h]
    exact ⟨_, _, rfl⟩
  · obtain ⟨q, h⟩ := s.withRoster_blocks (rosterOnWithdraw s.roster id.sender)
    exact ⟨_, _, h⟩

theorem State.miss_blocks (s : State) (id : Identity) :
    ∃ m o d, s.miss id = { s with rx := { s.rx with missed := m, overflow := o }, barrier := { s.barrier with openDamage := d } } := by
  unfold State.miss
  split
  · exact ⟨_, _, _, rfl⟩
  · unfold Receiver.addMissed
    split
    · exact ⟨_, _, _, rfl⟩
    · split <;> exact ⟨_, _, _, rfl⟩

theorem State.carryContent_blocks (s : State) (id : Identity) (c : ContentPart) :
    ∃ m o i d x, s.carryContent id c =
      { s with rx := { s.rx with missed := m, overflow := o }, intake := { s.intake with queue := i },
               barrier := { s.barrier with openDamage := d }, frame := { s.frame with stage := x } } := by
  cases c with
  | nothing => exact ⟨_, _, _, _, _, rfl⟩
  | reserved e => exact ⟨_, _, _, _, _, rfl⟩
  | noRoom =>
    obtain ⟨m, o, d, h⟩ := s.miss_blocks id
    unfold State.carryContent
    rw [h]
    exact ⟨_, _, _, _, _, rfl⟩
  | look tag l => exact ⟨_, _, _, _, _, rfl⟩

theorem State.carryWelcome_blocks (s : State) (o : PendingOutcome) (delivered : Bool) :
    ∃ w, s.carryWelcome o delivered = { s with pub.welcomePending := w } := by
  unfold State.carryWelcome
  split
  · exact ⟨_, rfl⟩
  · split <;> exact ⟨_, rfl⟩

/-- What a slot result carries out of the pending outcome: the roster, the missed list, the intake queue, the open-frame mark, the LOOK
stage and WELCOME pending (R94). -/
theorem State.carryOut_blocks (s : State) (delivered : Bool) :
    ∃ out m o ro i d w x q, s.carryOut delivered =
      { s with rx := { s.rx with outcome := out, missed := m, overflow := o }, roster := ro,
               intake := { s.intake with queue := i }, barrier := { s.barrier with openDamage := d },
               pub := { s.pub with welcomePending := w }, frame := { s.frame with stage := x }, port := q } := by
  rcases s.carryOut_cases delivered with ⟨-, h⟩ | ⟨y, -, h⟩
  · exact ⟨_, _, _, _, _, _, _, _, _, h⟩
  · obtain ⟨ro, q, h₁⟩ := State.carryRoster_blocks { s with rx.outcome := none } y.identity y.roster
    obtain ⟨m, o, i, d, x, h₂⟩ :=
      (State.carryRoster { s with rx.outcome := none } y.identity y.roster).carryContent_blocks y.identity y.content
    obtain ⟨w, h₃⟩ := State.carryWelcome_blocks (State.carryContent (State.carryRoster { s with rx.outcome := none } y.identity y.roster)
      y.identity y.content) y delivered
    rw [h, h₃, h₂, h₁]
    exact ⟨_, _, _, _, _, _, _, _, _, rfl⟩

end Sys2Proof.Machine
end

section
/-! SUPPORT. The Frame Store's own operations: the beginning of the preparation passes, the flip, the marks on a request, and what settling
makes of the Frame Store. -/

namespace Sys2Proof.Machine

/-! ### Layers and passes (R143, R144) -/

@[simp] theorem FrameStore.setLayer_base (f : FrameStore) (st : LayerState) : f.setLayer .base st = { f with baseState := st } := rfl
@[simp] theorem FrameStore.setLayer_overlay (f : FrameStore) (st : LayerState) :
    f.setLayer .overlay st = { f with overlayState := st } := rfl

/-- Both layers begin their passes: a KEEP pass ends at the moment it begins (R143, R144). -/
theorem FrameStore.beginPasses_eq (f : FrameStore) (r : Record) :
    f.beginPasses r =
      { f with baseState := if r.baseMode = .keep then f.afterPass else .preparing
               overlayState := if r.overlayMode = .keep then f.afterPass else .preparing } := by
  cases h : r.baseMode <;> cases h' : r.overlayMode <;>
    simp [FrameStore.beginPasses, FrameStore.beginPass, Record.mode, h, h', FrameStore.afterPass]

theorem FrameStore.afterPass_of_no_request {f : FrameStore} (h : f.request = none) : f.afterPass = .steady := by
  simp [FrameStore.afterPass, h]

/-- The flip: both selectors exchanged, the LOOK stage settled and emptied, the request cleared, the scan and the passes begun anew
(R140, R145, R146). -/
theorem FrameStore.flip_eq (f : FrameStore) (r : Record) (q : FlipRequest) :
    f.flip r q =
      { f with shownBase := f.shownBase.other, shownOverlay := f.shownOverlay.other, look := f.lookAfter q.tag, stage := none,
               request := none, scan := some { row := 0, base := f.shownBase.other, overlay := f.shownOverlay.other }
               baseState := if r.baseMode = .keep then .steady else .preparing
               overlayState := if r.overlayMode = .keep then .steady else .preparing } := by
  unfold FrameStore.flip
  rw [FrameStore.beginPasses_eq, FrameStore.afterPass_of_no_request rfl]
  rfl

/-- The pass-end mark of a standing request is set (R139). -/
theorem FrameStore.passEnded_eq (f : FrameStore) :
    f.passEnded = { f with request := f.request.map fun q => { q with passEnd := true } } := by
  obtain ⟨-, -, -, -, -, -, -, -, _ | q, -, -, -, -, -⟩ := f <;> rfl

/-! ### Writing a fill bank leaves the rest of the Frame Store -/

/-- What a write of a fill bank leaves alone: everything but the contents of the two banks that are not shown. -/
def FrameStore.OnlyFillBanks (f g : FrameStore) : Prop :=
  g = { f with baseA := g.baseA, baseB := g.baseB, overlayA := g.overlayA, overlayB := g.overlayB } ∧
    g.base f.shownBase = f.base f.shownBase ∧ g.overlay f.shownOverlay = f.overlay f.shownOverlay

theorem FrameStore.OnlyFillBanks.refl (f : FrameStore) : f.OnlyFillBanks f := ⟨rfl, rfl, rfl⟩

theorem FrameStore.OnlyFillBanks.shownBase {f g : FrameStore} (h : f.OnlyFillBanks g) : g.shownBase = f.shownBase := by
  rw [h.1]

theorem FrameStore.OnlyFillBanks.shownOverlay {f g : FrameStore} (h : f.OnlyFillBanks g) : g.shownOverlay = f.shownOverlay := by
  rw [h.1]

theorem FrameStore.OnlyFillBanks.trans {f g k : FrameStore} (h : f.OnlyFillBanks g) (h' : g.OnlyFillBanks k) : f.OnlyFillBanks k := by
  have hbase := h.shownBase
  have hoverlay := h.shownOverlay
  obtain ⟨heq, hb, ho⟩ := h
  obtain ⟨heq', hb', ho'⟩ := h'
  rw [hbase] at hb'
  rw [hoverlay] at ho'
  refine ⟨?_, hb'.trans hb, ho'.trans ho⟩
  rw [heq', heq]

theorem FrameStore.onlyFillBanks_setBaseFill (f : FrameStore) (m : Memory Color) : f.OnlyFillBanks (f.setBaseFill m) :=
  ⟨by unfold FrameStore.setBaseFill; split <;> rfl, f.setBaseFill_base_shownBase m, f.setBaseFill_overlay m _⟩

theorem FrameStore.onlyFillBanks_setOverlayFill (f : FrameStore) (m : Memory OverlayPixel) : f.OnlyFillBanks (f.setOverlayFill m) :=
  ⟨by unfold FrameStore.setOverlayFill; split <;> rfl, f.setOverlayFill_base m _, f.setOverlayFill_overlay_shownOverlay m⟩

theorem FrameStore.onlyFillBanks_prepare (f : FrameStore) (mode : CarryMode) (l : Layer) (p : Nat → Bool) :
    f.OnlyFillBanks (f.prepare mode l p) := by
  cases mode <;> cases l
  · exact .refl f
  · exact .refl f
  · exact f.onlyFillBanks_setBaseFill _
  · exact f.onlyFillBanks_setOverlayFill _
  · exact f.onlyFillBanks_setBaseFill _
  · exact f.onlyFillBanks_setOverlayFill _

theorem FrameStore.onlyFillBanks_cancelPass (f : FrameStore) (r : Record) (l : Layer) (free : Nat) :
    f.OnlyFillBanks (f.cancelPass r l free) := by
  unfold FrameStore.cancelPass
  split
  · exact f.onlyFillBanks_prepare ..
  · exact .refl f

theorem FrameStore.onlyFillBanks_writeStripe (f : FrameStore) (r : Record) (palette : Memory Color) (l : Layer) (q : Rect)
    (slot : List RawPixel) : f.OnlyFillBanks (f.writeStripe r palette l q slot) := by
  cases l
  · exact f.onlyFillBanks_setBaseFill _
  · exact f.onlyFillBanks_setOverlayFill _

theorem FrameStore.onlyFillBanks_writeFill (f : FrameStore) (r : Record) (l : Layer) (q : Rect) (color : Color) (transparent : Bool)
    (p : Nat → Bool) : f.OnlyFillBanks (f.writeFill r l q color transparent p) := by
  cases l
  · exact f.onlyFillBanks_setBaseFill _
  · exact f.onlyFillBanks_setOverlayFill _

/-! ### The four stores of pixels stay canonical -/

/-- The four banks in their canonical form. -/
def FrameStore.BanksWf (f : FrameStore) : Prop :=
  Memory.wf Color.black f.baseA ∧ Memory.wf Color.black f.baseB ∧
  Memory.wf OverlayPixel.clear f.overlayA ∧ Memory.wf OverlayPixel.clear f.overlayB

theorem FrameStore.BanksWf.base {f : FrameStore} (h : f.BanksWf) (b : Bank) : Memory.wf Color.black (f.base b) := by
  cases b
  · exact h.1
  · exact h.2.1

theorem FrameStore.BanksWf.overlay {f : FrameStore} (h : f.BanksWf) (b : Bank) : Memory.wf OverlayPixel.clear (f.overlay b) := by
  cases b
  · exact h.2.2.1
  · exact h.2.2.2

theorem FrameStore.BanksWf.setBaseFill {f : FrameStore} (h : f.BanksWf) {m : Memory Color} (hm : Memory.wf Color.black m) :
    (f.setBaseFill m).BanksWf := by
  obtain ⟨ha, hb, hoa, hob⟩ := h
  obtain ⟨ha', hb'⟩ := FrameStore.wf_setBaseFill hm ha hb
  exact ⟨ha', hb', by unfold FrameStore.setBaseFill; split <;> exact hoa, by unfold FrameStore.setBaseFill; split <;> exact hob⟩

theorem FrameStore.BanksWf.setOverlayFill {f : FrameStore} (h : f.BanksWf) {m : Memory OverlayPixel}
    (hm : Memory.wf OverlayPixel.clear m) : (f.setOverlayFill m).BanksWf := by
  obtain ⟨ha, hb, hoa, hob⟩ := h
  obtain ⟨hoa', hob'⟩ := FrameStore.wf_setOverlayFill hm hoa hob
  exact ⟨by unfold FrameStore.setOverlayFill; split <;> exact ha, by unfold FrameStore.setOverlayFill; split <;> exact hb, hoa', hob'⟩

theorem FrameStore.BanksWf.prepare {f : FrameStore} (h : f.BanksWf) (mode : CarryMode) (l : Layer) (p : Nat → Bool) :
    (f.prepare mode l p).BanksWf := by
  cases mode <;> cases l
  · exact h
  · exact h
  · exact h.setBaseFill (Memory.wf_copyWhere _ _ (h.base _))
  · exact h.setOverlayFill (Memory.wf_copyWhere _ _ (h.overlay _))
  · exact h.setBaseFill (Memory.wf_clearWhere _ (h.base _))
  · exact h.setOverlayFill (Memory.wf_clearWhere _ (h.overlay _))

theorem FrameStore.BanksWf.cancelPass {f : FrameStore} (h : f.BanksWf) (r : Record) (l : Layer) (free : Nat) :
    (f.cancelPass r l free).BanksWf := by
  unfold FrameStore.cancelPass
  split
  · exact h.prepare ..
  · exact h

theorem FrameStore.BanksWf.writeStripe {f : FrameStore} (h : f.BanksWf) (r : Record) (palette : Memory Color) (l : Layer) (q : Rect)
    (slot : List RawPixel) : (f.writeStripe r palette l q slot).BanksWf := by
  cases l
  · exact h.setBaseFill (Memory.wf_writeAll _ (h.base _))
  · exact h.setOverlayFill (Memory.wf_writeAll _ (h.overlay _))

theorem FrameStore.BanksWf.writeFill {f : FrameStore} (h : f.BanksWf) (r : Record) (l : Layer) (q : Rect) (color : Color)
    (transparent : Bool) (p : Nat → Bool) : (f.writeFill r l q color transparent p).BanksWf := by
  cases l
  · exact h.setBaseFill (Memory.wf_writeAll _ (h.base _))
  · exact h.setOverlayFill (Memory.wf_writeAll _ (h.overlay _))

/-! ### Settling and the Frame Store (R139) -/

@[simp] theorem State.settleBlocks_frame (s : State) : s.settleBlocks.frame = s.tryFlip.frame := by
  simp [State.settleBlocks]

@[simp] theorem State.settle_frame (s : State) : s.settle.frame = s.tryFlip.frame := by
  obtain ⟨x, h, -⟩ := s.settle_eq
  rw [h]
  exact s.settleBlocks_frame

@[simp] theorem State.beside_frame (f g : State → State) (s : State) : (s.beside f g).frame = (f s).frame := by
  obtain ⟨x, h, -⟩ := s.beside_eq f g
  rw [h]

/-- After settling, the Frame Store is as it was, or flipped. -/
theorem State.tryFlip_frame_cases (s : State) :
    s.tryFlip.frame = s.frame ∨
      ∃ r q, s.record = some r ∧ s.frame.request = some q ∧ s.frame.flipDue = true ∧ s.tryFlip.frame = s.frame.flip r q := by
  rcases s.tryFlip_cases with ⟨h, -⟩ | ⟨r, q, hr, hq, hdue, h⟩
  · exact .inl (by rw [h])
  · refine .inr ⟨r, q, hr, hq, hdue, ?_⟩
    rw [h]
    cases q.damage <;> rfl

theorem FrameStore.BanksWf.tryFlip {s : State} (h : s.frame.BanksWf) : s.tryFlip.frame.BanksWf := by
  rcases s.tryFlip_frame_cases with heq | ⟨r, q, -, -, -, heq⟩
  · rwa [heq]
  · rw [heq, FrameStore.flip_eq]
    exact h

/-- The flip is made exactly when it is due and a record stands. -/
theorem State.tryFlip_of_due {s : State} {r : Record} {q : FlipRequest} (hr : s.record = some r) (hq : s.frame.request = some q)
    (hdue : s.frame.flipDue = true) :
    s.tryFlip = { s with frame := s.frame.flip r q, port.events := s.port.events ||| (if q.damage then 0x003 else 0x001) } := by
  simp only [State.tryFlip, hr, hq, hdue, if_true]
  cases q.damage <;> simp [State.raiseIf, State.raise, Event.bit, BitVec.or_assoc]

theorem State.tryFlip_of_not_due {s : State} (h : s.frame.flipDue = false) : s.tryFlip = s := by
  rcases s.tryFlip_cases with ⟨heq, -⟩ | ⟨r, q, -, -, hdue, -⟩
  · exact heq
  · simp [h] at hdue

theorem State.tryFlip_of_no_request {s : State} (h : s.frame.request = none) : s.tryFlip = s :=
  State.tryFlip_of_not_due (by simp [FrameStore.flipDue, h])

end Sys2Proof.Machine
end

section
/-! The statement of the flip: O47. -/

namespace Sys2Proof.Proofs

open Sys2Proof.Machine

/-- Settles O47: the flip is due exactly under the four conditions, and then `FrameStore.flip_eq` says what it makes. -/
theorem theFlipShowsTheClosedFrame : Obligations.TheFlipShowsTheClosedFrame := by
  refine fun s r hr => ⟨fun q hq hpass hheld hbase hoverlay => ?_, fun h => State.tryFlip_of_not_due ?_⟩
  · have hdue : s.frame.flipDue = true := s.frame.flipDue_iff.2 ⟨q, hq, hpass, hheld, hbase, hoverlay⟩
    rw [State.tryFlip_of_due hr hq hdue, FrameStore.flip_eq]
    unfold FrameStore.lookAfter
    cases s.frame.stage <;> rfl
  · refine Bool.eq_false_iff.2 fun hdue => ?_
    obtain ⟨q, hq, hpass, hheld, hbase, hoverlay⟩ := s.frame.flipDue_iff.1 hdue
    rcases h q hq with h | h | h | h <;> simp_all

end Sys2Proof.Proofs
end

section
/-! SUPPORT. What every command does to the queue of waiting commands, to the addressed stores and to the picture that is shown. -/

namespace Sys2Proof.Machine

open Sys2Proof.Safety

/-! ### Operations by their blocks, as rules for `simp` -/

@[simp] theorem State.settleBlocks_pending (s : State) : s.settleBlocks.pending = s.pending := by simp [State.settleBlocks]

@[simp] theorem State.beside_pending (f g : State → State) (s : State) : (s.beside f g).pending = (f s).pending := by
  obtain ⟨x, h, -⟩ := s.beside_eq f g
  rw [h]

@[simp] theorem State.makeMarks_pending (s : State) : s.makeMarks.pending = s.pending := by
  obtain ⟨x, y, q, h⟩ := s.makeMarks_blocks
  rw [h]

@[simp] theorem State.report_pending (s : State) (r : Report) : (s.report r).pending = s.pending := by
  obtain ⟨j, l, b, p, q, h⟩ := s.report_blocks r
  rw [h]

@[simp] theorem State.stopDriving_pending (s : State) (r : Report) : (s.stopDriving r).pending = s.pending := by
  obtain ⟨j, l, b, p, q, h⟩ := s.stopDriving_blocks r
  rw [h]

@[simp] theorem State.takeBit_pending (s : State) (bit : Bool) : (s.takeBit bit).pending = s.pending := by
  obtain ⟨j, l, x, b, p, q, h⟩ := s.takeBit_blocks bit
  rw [h]

@[simp] theorem State.ensureBit_pending (s : State) : s.ensureBit.pending = s.pending := by
  obtain ⟨l, h⟩ := s.ensureBit_blocks
  rw [h]

@[simp] theorem State.ensureSlot_pending (s : State) : s.ensureSlot.pending = s.pending := by
  obtain ⟨l, q, h⟩ := s.ensureSlot_blocks
  rw [h]

@[simp] theorem State.sampleSlot_pending (s : State) (delivered : Bool) : (s.sampleSlot delivered).pending = s.pending := by
  obtain ⟨out, m, o, ro, i, d, w, x, q, h⟩ := s.carryOut_blocks delivered
  simp [State.sampleSlot, h]

@[simp] theorem State.flushQueue_pending (s : State) : s.flushQueue.pending = s.pending := by
  obtain ⟨p, q, h⟩ := s.flushQueue_blocks
  rw [h]

@[simp] theorem State.request_pending (s : State) (body : RequestBody) (payload : List RawPixel) :
    (s.request body payload).1.pending = s.pending := by
  obtain ⟨p, h⟩ := s.takeRequest_blocks body payload
  simp [State.request, h]

@[simp] theorem State.openStart_pending (s : State) : s.openStart.pending = s.pending := by
  unfold State.openStart
  split <;> simp

@[simp] theorem State.sampleStart_pending (s : State) (l : Level) : (s.sampleStart l).pending = s.pending := by
  unfold State.sampleStart
  split
  · cases l
    · rfl
    · dsimp only
      split <;> simp
  · rfl

@[simp] theorem State.expireBlocks_pending (s : State) : s.expireBlocks.pending = s.pending := by
  obtain ⟨j, b, q, h⟩ := s.welcomeExpired_blocks
  unfold State.expireBlocks
  split <;> simp [h]

@[simp] theorem State.abandonCommit_pending (s : State) : s.abandonCommit.pending = s.pending := by
  unfold State.abandonCommit
  split
  · split <;> rfl
  · rfl

/-! ### The shape of the parameter bytes (R171, R179, R180) -/

theorem takesContent_of_inContent {st : StationState} (h : inContent st = true) : TakesContent st := by
  cases st <;> simp_all [inContent, TakesContent]

theorem station_of_inConfigure {st : StationState} (h : inConfigure st = true) : st = .unconfigured ∨ st = .configured := by
  cases st <;> simp_all [inConfigure]

theorem station_of_inStart {st : StationState} (h : inStart st = true) : st = .configured := by
  cases st <;> simp_all [inStart]

theorem byteAt_take {bs : List Byte} {i n : Nat} (h : i < n) : byteAt (bs.take n) i = byteAt bs i := by
  simp [byteAt, List.getD, h]

theorem natAt_take {bs : List Byte} {i n : Nat} (h : i < n) : natAt (bs.take n) i = natAt bs i := by
  simp [natAt, byteAt_take h]

theorem wordAt_take {bs : List Byte} {i n : Nat} (h : i + 1 < n) : wordAt (bs.take n) i = wordAt bs i := by
  simp [wordAt, natAt_take h, natAt_take (Nat.lt_of_succ_lt h)]

theorem rgb565Pixels_length (bs : List Byte) : (rgb565Pixels bs).length = bs.length / 2 := by
  induction bs using rgb565Pixels.induct with
  | case1 a b rest ih => simp only [rgb565Pixels, List.length_cons, ih]; omega
  | case2 bs h =>
    match bs, h with
    | [], _ => rfl
    | [_], _ => simp [rgb565Pixels]
    | a :: b :: rest, h => exact absurd rfl (h a b rest)

theorem rgb666Pixels_eq (bs : List Byte) : rgb666Pixels bs = (colorsOf bs).map .rgb666 := by
  induction bs using rgb666Pixels.induct with
  | case1 a b c rest ih => simp only [rgb666Pixels, colorsOf, List.map_cons, ih]
  | case2 bs h =>
    match bs, h with
    | [], _ => rfl
    | [_], _ => simp [rgb666Pixels, colorsOf]
    | [_, _], _ => simp [rgb666Pixels, colorsOf]
    | a :: b :: c :: rest, h => exact absurd rfl (h a b c rest)

theorem colorsOf_length (bs : List Byte) : (colorsOf bs).length = bs.length / 3 := by
  induction bs using colorsOf.induct with
  | case1 a b c rest ih => simp only [colorsOf, List.length_cons, ih]; omega
  | case2 bs h =>
    match bs, h with
    | [], _ => rfl
    | [_], _ => simp [colorsOf]
    | [_, _], _ => simp [colorsOf]
    | a :: b :: c :: rest, h => exact absurd rfl (h a b c rest)

/-- A payload of `n` pixels' bytes has `n` pixels. -/
theorem payloadPixels_length (f : Format) {bs : List Byte} {n : Nat} (h : bs.length = n * f.bytesPerPixel) :
    (payloadPixels f bs).length = n := by
  cases f
  · simpa [payloadPixels, Format.bytesPerPixel] using h
  · simp only [payloadPixels, rgb565Pixels_length, h, Format.bytesPerPixel]
    omega
  · simp only [payloadPixels, rgb666Pixels_eq, List.length_map, colorsOf_length, h, Format.bytesPerPixel]
    omega

/-- The shape of a PUT STRIPE is in its nine field bytes (R171). -/
theorem stripeShape_take {ps : List Byte} {n : Nat} (h : 9 ≤ n) : stripeShape (ps.take n) = stripeShape ps := by
  simp only [stripeShape, natAt_take (show 0 < n by omega), natAt_take (show 1 < n by omega), natAt_take (show 8 < n by omega),
    wordAt_take (show 6 + 1 < n by omega)]

theorem nine_le_stripeParams (ps : List Byte) : 9 ≤ stripeParams ps := by
  unfold stripeParams
  split
  · rfl
  · split
    · omega
    · rfl

theorem two_le_paletteParams (ps : List Byte) : 2 ≤ paletteParams ps := by
  unfold paletteParams
  split
  · rfl
  · split
    · omega
    · rfl

/-- The parameter bytes of a PUT STRIPE with a valid shape: nine field bytes and the payload (R171). -/
theorem stripeParams_of_shape {ps : List Byte} {l : Layer} {f : Format} {w h : Nat} (hlength : 9 ≤ ps.length)
    (hshape : stripeShape ps = some (l, f, w, h)) : stripeParams ps = 9 + w * h * f.bytesPerPixel := by
  simp only [stripeParams, if_neg (Nat.not_lt.2 hlength), hshape]

theorem paletteParams_of_shape {ps : List Byte} (hlength : 2 ≤ ps.length) (hshape : paletteShape ps = true) :
    paletteParams ps = 2 + 3 * natAt ps 1 := by
  simp only [paletteParams, if_neg (Nat.not_lt.2 hlength), hshape, if_true]

/-- A PUT STRIPE that is taken carries as many pixels as its rectangle has (R179). -/
theorem State.stripeBody_places {s : State} {params : List Byte} {body : RequestBody} {payload : List RawPixel}
    (hlength : stripeParams params ≤ params.length) (h : s.stripeBody (params.take (stripeParams params)) = some (body, payload)) :
    body.places = payload.length := by
  have hnine := nine_le_stripeParams params
  unfold State.stripeBody at h
  rw [stripeShape_take hnine] at h
  split at h
  · simp at h
  · rename_i l f w k hshape
    have hparams := stripeParams_of_shape (hnine.trans hlength) hshape
    dsimp only at h
    split at h
    · simp only [Option.some.injEq, Prod.mk.injEq] at h
      obtain ⟨rfl, rfl⟩ := h
      refine (payloadPixels_length f ?_).symm
      rw [List.length_drop, List.length_take, Nat.min_eq_left hlength, hparams]
      exact Nat.add_sub_cancel_left ..
    · simp at h

/-- A PUT PALETTE that is taken carries as many colours as its count says (R180). -/
theorem paletteBody_places {params : List Byte} {body : RequestBody} {payload : List RawPixel}
    (hlength : paletteParams params ≤ params.length) (h : paletteBody (params.take (paletteParams params)) = some (body, payload)) :
    body.places = payload.length := by
  have htwo := two_le_paletteParams params
  unfold paletteBody paletteShape at h
  rw [natAt_take (show 0 < paletteParams params by omega), natAt_take (show 1 < paletteParams params by omega)] at h
  split at h
  · rename_i hshape
    have hparams := paletteParams_of_shape (htwo.trans hlength) hshape.1
    simp only [Option.some.injEq, Prod.mk.injEq] at h
    obtain ⟨rfl, rfl⟩ := h
    rw [List.length_map, colorsOf_length, List.length_drop, List.length_take, Nat.min_eq_left hlength, hparams]
    show natAt params 1 = _
    omega
  · simp at h

theorem State.fillBody_places {s : State} {ps : List Byte} {body : RequestBody} (h : s.fillBody ps = some body) : body.places = 0 := by
  unfold State.fillBody at h
  split at h
  · simp at h
  · dsimp only at h
    split at h
    · cases h
      rfl
    · simp at h

theorem lookBody_places {ps : List Byte} {body : RequestBody} (h : lookBody ps = some body) : body.places = 0 := by
  unfold lookBody at h
  split at h
  · cases h
    rfl
  · simp at h

theorem Record.valid_of_recordOf {bs : List Byte} {r : Record} (h : recordOf bs = some r) : r.valid = true := by
  unfold recordOf at h
  split at h
  · dsimp only at h
    split at h
    · cases h
      exact ‹_ ∧ _›.2
    · simp at h
  · simp at h

/-! ### What each command does, once (R169–R186) -/

/-- What a command does: the operations that its meaning is made of, with the guards under which it runs them. A command that is not
taken, or whose event cannot occur, does nothing. In the arms of the local port `p` is the port once the command is taken and `q` the
port once it is answered. -/
inductive Effect (s : State) : Instr → State → Prop
  | nothing (c) : Effect s c s
  | port (c) (held : Bool) (p : Port) (hc : c ≠ .confirmedRise ∧ c ≠ .busIdle) : Effect s c { s with resetHeld := held, port := p }
  | hardReset : Effect s .hardReset s.hardReset
  | clearPass (h : s.join.station = .starting) : Effect s .startUpClearPass
      { s with join.station := .unconfigured
               frame := { s.frame with baseA := [], baseB := [], overlayA := [], overlayB := [] } }
  | clearCounters (p : Port) : Effect s .clearCounters { s.clearCounters with port := p }
  | configure (ps) (r : Record) (p : Port) (hr : r.valid = true)
      (h : s.join.station = .unconfigured ∨ s.join.station = .configured) :
      Effect s (.configure ps) { s.configureWith r with port := p }
  | start (r : Record) (p q : Port) (hr : s.record = some r) (h : s.join.station = .configured)
      (hq : q = { (State.startJoining { s with port := p } r).port with response := q.response }) :
      Effect s .start { State.startJoining { s with port := p } r with port := q }
  | reset (p q : Port) : Effect s .reset { State.softReset { s with port := p } with port := q }
  | request (c) (body : RequestBody) (payload : List RawPixel) (p q : Port) (hc : c ≠ .confirmedRise ∧ c ≠ .busIdle)
      (h : TakesContent s.join.station) (hbody : body.places = payload.length)
      (hq : q = { (State.request { s with port := p } body payload).1.port with response := q.response }) :
      Effect s c { (State.request { s with port := p } body payload).1 with port := q }
  | flush (p q : Port)
      (hq : q = { ((State.beside State.flushQueue State.flushQueue { s with port := p }).settle).port with response := q.response }) :
      Effect s .flushQueue { (State.beside State.flushQueue State.flushQueue { s with port := p }).settle with port := q }
  | busIdle (h : s.link.view = .waiting ∨ s.link.view = .idle) :
      Effect s .busIdle { s with link.view := .idle, link.idleCount := 4 }.settle
  | truncate (h : s.link.view = .burst) (hfree : s.pub.transmission = none) (hslot : (s.link.atSlot && s.link.bitOpen) = false) :
      Effect s .busIdle { s.truncate with link.view := .idle, link.idleCount := 4 }.settle
  | openStart : Effect s (.startPeriod none) s.openStart
  | sampleStart (l : Level) : Effect s (.startPeriod (some l)) (s.openStart.sampleStart l)
  | lost (h : s.takingBits = true) (hbyte : s.rx.inByte0 = true) (hs : s.sending = some true) :
      Effect s .lostArbitration ((s.ensureBit.stopDriving .lost).takeBit false).settle
  | bitError (bit : Bool) (h : s.takingBits = true) (hs : s.sending = some bit) :
      Effect s .bitError (((s.ensureBit.count .bitErrors).stopDriving .bitError).takeBit (!bit)).settle
  | completion (l : Level) (h : s.takingBits = true) (hlast : s.rx.atLastBit = true) :
      Effect s (.completion l) (s.ensureBit.takeBit l.bit).settle
  | slotResult (l : Level) (h : s.atRefusalSlot = true) : Effect s (.slotResult l) (s.ensureSlot.sampleSlot l.bit).settle
  | stripeCommit (r : Record) (e : IntakeEntry) (rest : List IntakeEntry) (l f q slot) (hr : s.record = some r)
      (hc : s.intake.committing = true) (hq : s.intake.queue = e :: rest) (he : e.content = .stripe l f q slot) :
      Effect s .stripeCommit { s with frame := s.frame.writeStripe r s.intake.palette l q slot }.finishCommit.settle.makeMarks
  | fillCommit (r : Record) (e : IntakeEntry) (rest : List IntakeEntry) (l q color transparent) (hr : s.record = some r)
      (hc : s.intake.committing = true) (hq : s.intake.queue = e :: rest) (he : e.content = .fill l q color transparent) :
      Effect s .fillCommit { s with frame := s.frame.writeFill r l q color transparent fun _ => true }.finishCommit.settle.makeMarks
  | paletteCommit (e : IntakeEntry) (rest : List IntakeEntry) (first slot) (hc : s.intake.committing = true)
      (hq : s.intake.queue = e :: rest) (he : e.content = .palette first slot) :
      Effect s .paletteCommit { s with intake.palette := writePalette s.intake.palette first slot }.finishCommit.settle.makeMarks
  | confirmedRise (h : s.join.station ≠ .starting) (hlow : s.barrier.confirmed = some .low) :
      Effect s .confirmedRise (State.takeRise { s with barrier.confirmed := some .high }).settle
  | confirmedFall (h : s.join.station ≠ .starting) (hhigh : s.barrier.confirmed = some .high) :
      Effect s .confirmedFall (s.beside State.takeFall State.takeFall)
  | firstConfirmedLevel (l : Level) (h : s.join.station ≠ .starting) (hnone : s.barrier.confirmed = none) :
      Effect s (.firstConfirmedLevel l) { s with barrier.confirmed := some l }
  | faultWatchClear : Effect s .faultWatchClear (s.beside State.clearFaultWatch State.clearFaultWatch)
  | redriveDelay : Effect s .redriveDelay (s.beside State.endRedrive State.endRedrive)
  | framePeriod : Effect s .framePeriod (s.beside State.reachPeriod State.reachPeriod)
  | holdLimit : Effect s .holdLimit (s.beside State.holdReached State.holdReached)
  | stallLimit : Effect s .stallLimit (s.beside State.reachStall State.reachStall)
  | welcomeWait : Effect s .welcomeWait s.expireWelcome
  | row (r : Record) (sc : Scan) (hr : s.record = some r) (hsc : s.frame.scan = some sc) (h : sc.row + 1 < r.rows) :
      Effect s .lineTime
        { s with frame := { s.frame with panel := some (s.frame.rowShown r sc), scan := some { sc with row := sc.row + 1 } } }
  | lastRow (r : Record) (sc : Scan) (hr : s.record = some r) (hsc : s.frame.scan = some sc) :
      Effect s .lineTime { s with frame := s.frame.lastRow r sc }.settle.makeMarks
  | passEnd (r : Record) (l : Layer) (hr : s.record = some r) (h : s.frame.layerState l = .preparing) :
      Effect s (.preparationPassEnd l) { s with frame := s.frame.endPass r l }.settle.makeMarks
  | idleRestart (h : s.link.view = .waiting) : Effect s .bitPeriodStart { s with link.idleCount := 0 }
  | bitStart (h : s.link.view = .burst) (hslot : s.link.atSlot = false) : Effect s .bitPeriodStart s.ensureBit
  | slotStart (h : s.link.view = .burst) (hslot : s.link.atSlot = true) : Effect s .bitPeriodStart s.ensureSlot
  | bit (l : Level) (h : s.takingBits = true) (hlast : s.rx.atLastBit = false) :
      Effect s (.bitSamplePoint l) (s.ensureBit.takeBit l.bit)

/-- Receiving a command has an effect when its action has. -/
theorem Effect.receive {s : State} {c : Instr} {code : Byte} {params : List Byte} {need : List Byte → Nat}
    {listed : StationState → Bool} {act : List Byte → State → State × Result × List Byte} (hc : c ≠ .confirmedRise ∧ c ≠ .busIdle)
    (hact : need params ≤ params.length → listed s.join.station = true → ∀ a,
      a = act (params.take (need params)) (s.taking code params (need params)) →
      Effect s c { a.1 with port.response := a.2.1.byte :: (if a.2.1 = .ok then a.2.2 else []) }) :
    Effect s c (s.receive code params need listed act) :=
  State.receive_induction (P := Effect s c) (.nothing c) (.port c _ _ hc) (fun t ht => by rw [ht]; exact .port c _ _ hc)
    fun t a ht ha hp hl => by rw [ha, ht]; exact hact hp hl _ rfl

/-- Every command ends in a next state, by its effect. -/
theorem exec_effect (c : Instr) (s : State) : ∃ t, exec c s = .next t ∧ Effect s c t := by
  have hrequest {c : Instr} {body : RequestBody} {payload : List RawPixel} {code : Byte} {ps : List Byte} {n : Nat} {q : Port}
      (hc : c ≠ .confirmedRise ∧ c ≠ .busIdle) (h : inContent s.join.station = true) (hbody : body.places = payload.length)
      (hq : q = { ((s.taking code ps n).request body payload).1.port with response := q.response }) :
      Effect s c { ((s.taking code ps n).request body payload).1 with port := q } :=
    .request c body payload (s.taking code ps n).port q hc (takesContent_of_inContent h) hbody hq
  cases c with
  | hardReset => exact ⟨_, rfl, .hardReset⟩
  | hardResetEnd =>
    simp only [exec, execHardResetEnd]
    split
    · exact ⟨_, rfl, .port _ _ _ (by simp)⟩
    · exact ⟨_, rfl, .nothing _⟩
  | startUpClearPass =>
    simp only [exec, execStartUpClearPass]
    split
    · exact ⟨_, rfl, .clearPass ‹_ ∧ _›.1⟩
    · exact ⟨_, rfl, .nothing _⟩
  | pselFall =>
    simp only [exec, execPselFall]
    split <;> exact ⟨_, rfl, .port _ s.resetHeld _ (by simp)⟩
  | pselRise bits =>
    simp only [exec, execPselRise]
    split
    · exact ⟨_, rfl, .port _ s.resetHeld _ (by simp)⟩
    · split
      · exact ⟨_, rfl, .port _ s.resetHeld _ (by simp)⟩
      · exact ⟨_, rfl, .port _ s.resetHeld _ (by simp)⟩
      · unfold State.countIf
        split <;> exact ⟨_, rfl, .port _ s.resetHeld _ (by simp)⟩
      · exact ⟨_, rfl, .port _ s.resetHeld _ (by simp)⟩
      · exact ⟨_, rfl, .port _ s.resetHeld _ (by simp)⟩
  | readStatus | readRoster | readCounters | takeEvents | readConfig =>
    exact ⟨_, rfl, .receive (by simp) fun _ _ a ha => by rw [ha]; exact .port _ s.resetHeld _ (by simp)⟩
  | clearCounters => exact ⟨_, rfl, .receive (by simp) fun _ _ a ha => by rw [ha]; exact .clearCounters _⟩
  | setEventMask params =>
    refine ⟨_, rfl, .receive (by simp) fun _ _ a ha => ?_⟩
    rw [ha]
    split <;> exact .port _ s.resetHeld _ (by simp)
  | configure params =>
    refine ⟨_, rfl, .receive (by simp) fun _ hl a ha => ?_⟩
    rw [ha]
    split
    · exact .configure params _ _ (Record.valid_of_recordOf ‹_›) (station_of_inConfigure hl)
    · exact .port _ s.resetHeld _ (by simp)
  | start =>
    refine ⟨_, rfl, .receive (by simp) fun _ hl a ha => ?_⟩
    rw [ha]
    split
    · exact .start _ (s.taking 0x11 [] 0).port _ ‹_› (station_of_inStart hl) rfl
    · exact .port _ s.resetHeld _ (by simp)
  | reset => exact ⟨_, rfl, .receive (by simp) fun _ _ a ha => by rw [ha]; exact .reset (s.taking 0x12 [] 0).port _⟩
  | putStripe params =>
    refine ⟨_, rfl, .receive (by simp) fun hp hl a ha => ?_⟩
    rw [ha]
    split
    · exact hrequest (by simp) hl (State.stripeBody_places hp ‹_›) rfl
    · exact .port _ s.resetHeld _ (by simp)
  | putPalette params =>
    refine ⟨_, rfl, .receive (by simp) fun hp hl a ha => ?_⟩
    rw [ha]
    split
    · exact hrequest (by simp) hl (paletteBody_places hp ‹_›) rfl
    · exact .port _ s.resetHeld _ (by simp)
  | putFill params =>
    refine ⟨_, rfl, .receive (by simp) fun hp hl a ha => ?_⟩
    rw [ha]
    split
    · exact hrequest (by simp) hl (State.fillBody_places ‹_›) rfl
    · exact .port _ s.resetHeld _ (by simp)
  | putLook params =>
    refine ⟨_, rfl, .receive (by simp) fun hp hl a ha => ?_⟩
    rw [ha]
    split
    · exact hrequest (by simp) hl (lookBody_places ‹_›) rfl
    · exact .port _ s.resetHeld _ (by simp)
  | endFrame | withdraw =>
    refine ⟨_, rfl, .receive (by simp) fun hp hl a ha => ?_⟩
    rw [ha]
    exact hrequest (by simp) hl rfl rfl
  | flushQueue => exact ⟨_, rfl, .receive (by simp) fun _ _ a ha => by rw [ha]; exact .flush (s.taking 0x26 [] 0).port _ rfl⟩
  | unknownCommand code =>
    simp only [exec, execUnknownCommand]
    split
    · exact ⟨_, rfl, .nothing _⟩
    · exact ⟨_, rfl, .receive (by simp) fun _ _ a ha => by rw [ha]; exact .port _ s.resetHeld _ (by simp)⟩
  | busIdle =>
    simp only [exec, execBusIdle]
    split
    · exact ⟨_, rfl, .busIdle (.inl ‹_›)⟩
    · exact ⟨_, rfl, .busIdle (.inr ‹_›)⟩
    · split
      · exact ⟨_, rfl, .truncate ‹_› ‹_ ∧ _›.1 ‹_ ∧ _›.2⟩
      · exact ⟨_, rfl, .nothing _⟩
    · exact ⟨_, rfl, .nothing _⟩
    · exact ⟨_, rfl, .nothing _⟩
  | startPeriod level =>
    cases level
    · exact ⟨_, rfl, .openStart⟩
    · exact ⟨_, rfl, .sampleStart _⟩
  | lostArbitration =>
    simp only [exec, execLostArbitration]
    split
    · rename_i h
      exact ⟨_, rfl, .lost h.1 h.2.1 h.2.2⟩
    · exact ⟨_, rfl, .nothing _⟩
  | bitError =>
    simp only [exec, execBitError]
    split
    · split
      · exact ⟨_, rfl, .bitError _ ‹_ ∧ _›.1 ‹_›⟩
      · exact ⟨_, rfl, .nothing _⟩
    · exact ⟨_, rfl, .nothing _⟩
  | completion level =>
    simp only [exec, execCompletion]
    split
    · rename_i h
      exact ⟨_, rfl, .completion _ h.1 h.2.1⟩
    · exact ⟨_, rfl, .nothing _⟩
  | slotResult level =>
    simp only [exec, execSlotResult]
    split
    · exact ⟨_, rfl, .slotResult _ ‹_›⟩
    · exact ⟨_, rfl, .nothing _⟩
  | stripeCommit =>
    simp only [exec, execStripeCommit]
    split
    · split
      · exact ⟨_, rfl, .stripeCommit _ _ _ _ _ _ _ ‹_› ‹_› ‹_› ‹_›⟩
      · exact ⟨_, rfl, .nothing _⟩
      · exact ⟨_, rfl, .nothing _⟩
    · exact ⟨_, rfl, .nothing _⟩
  | fillCommit =>
    simp only [exec, execFillCommit]
    split
    · split
      · exact ⟨_, rfl, .fillCommit _ _ _ _ _ _ _ ‹_› ‹_› ‹_› ‹_›⟩
      · exact ⟨_, rfl, .nothing _⟩
      · exact ⟨_, rfl, .nothing _⟩
    · exact ⟨_, rfl, .nothing _⟩
  | paletteCommit =>
    simp only [exec, execPaletteCommit]
    split
    · split
      · exact ⟨_, rfl, .paletteCommit _ _ _ _ ‹_› ‹_› ‹_›⟩
      · exact ⟨_, rfl, .nothing _⟩
      · exact ⟨_, rfl, .nothing _⟩
    · exact ⟨_, rfl, .nothing _⟩
  | confirmedRise =>
    simp only [exec, execConfirmedRise]
    split
    · exact ⟨_, rfl, .confirmedRise ‹_ ∧ _›.1 ‹_ ∧ _›.2⟩
    · exact ⟨_, rfl, .nothing _⟩
  | confirmedFall =>
    simp only [exec, execConfirmedFall]
    split
    · exact ⟨_, rfl, .confirmedFall ‹_ ∧ _›.1 ‹_ ∧ _›.2⟩
    · exact ⟨_, rfl, .nothing _⟩
  | firstConfirmedLevel level =>
    simp only [exec, execFirstConfirmedLevel]
    split
    · exact ⟨_, rfl, .firstConfirmedLevel level ‹_ ∧ _›.1 ‹_ ∧ _›.2⟩
    · exact ⟨_, rfl, .nothing _⟩
  | faultWatchClear => exact ⟨_, rfl, .faultWatchClear⟩
  | redriveDelay => exact ⟨_, rfl, .redriveDelay⟩
  | framePeriod => exact ⟨_, rfl, .framePeriod⟩
  | holdLimit => exact ⟨_, rfl, .holdLimit⟩
  | stallLimit => exact ⟨_, rfl, .stallLimit⟩
  | lineTime =>
    simp only [exec, execLineTime]
    split
    · split
      · exact ⟨_, rfl, .row _ _ ‹_› ‹_› ‹_›⟩
      · exact ⟨_, rfl, .lastRow _ _ ‹_› ‹_›⟩
    · exact ⟨_, rfl, .nothing _⟩
  | preparationPassEnd layer =>
    simp only [exec, execPreparationPassEnd]
    split
    · split
      · exact ⟨_, rfl, .passEnd _ layer ‹_› ‹_›⟩
      · exact ⟨_, rfl, .nothing _⟩
    · exact ⟨_, rfl, .nothing _⟩
  | welcomeWait => exact ⟨_, rfl, .welcomeWait⟩
  | bitPeriodStart =>
    simp only [exec, execBitPeriodStart]
    split
    · exact ⟨_, rfl, .idleRestart ‹_›⟩
    · split
      · exact ⟨_, rfl, .slotStart ‹_› ‹_›⟩
      · exact ⟨_, rfl, .bitStart ‹_› (by simpa using ‹¬ s.link.atSlot = true›)⟩
    all_goals exact ⟨_, rfl, .nothing _⟩
  | bitSamplePoint level =>
    simp only [exec, execBitSamplePoint]
    split
    · rename_i h
      exact ⟨_, rfl, .bit _ h.1 h.2.1⟩
    · exact ⟨_, rfl, .nothing _⟩

theorem effect_of_exec {c : Instr} {s t : State} (h : exec c s = .next t) : Effect s c t := by
  obtain ⟨u, hu, heffect⟩ := exec_effect c s
  rw [hu] at h
  cases h
  exact heffect

theorem Effect.pending {s t : State} {c : Instr} (h : Effect s c t) : t.pending = s.pending := by
  cases h with
  | nothing | port | hardReset | clearPass | clearCounters | configure | firstConfirmedLevel | row | idleRestart => rfl
  | start r p q => simp [State.startJoining]
  | reset p q => exact State.abandonCommit_pending _
  | request | flush | busIdle | truncate | openStart | sampleStart | lost | bitError | completion | slotResult | bitStart | slotStart
  | bit | stripeCommit | fillCommit | paletteCommit | lastRow | passEnd => simp
  | confirmedRise =>
    obtain ⟨p, j, x, ro, i, b, q, f₁, f₂, f₃, f₄, h⟩ := State.riseBlocks_blocks { s with barrier.confirmed := some .high }
    simp [State.takeRise, h]
  | confirmedFall => simp [State.takeFall]
  | faultWatchClear => simp [State.clearFaultWatch]
  | redriveDelay =>
    obtain ⟨b, h⟩ := s.endRedrive_blocks
    simp [h]
  | framePeriod =>
    obtain ⟨b, q, h⟩ := s.reachPeriod_blocks
    simp [h]
  | holdLimit =>
    obtain ⟨b, q, h⟩ := s.holdReached_blocks
    simp [h]
  | stallLimit =>
    obtain ⟨b, q, h⟩ := s.reachStall_blocks
    simp [h]
  | welcomeWait => simp [State.expireWelcome]

/-- A step is the command at the front of the queue on the state with the queue's rest, or on an empty queue 100 µs of the timers. -/
theorem step_cases {s t : State} (h : step s = .next t) :
    (∃ c rest, s.pending = c :: rest ∧ exec c { s with pending := rest } = .next t) ∨ (s.pending = [] ∧ t = s.tick) := by
  unfold step at h
  split at h
  · exact .inl ⟨_, _, ‹_›, h⟩
  · cases h
    exact .inr ⟨‹_›, rfl⟩

end Sys2Proof.Machine
end

section
/-! SUPPORT. The staging store through the Publisher's operations, and the canonical form of the six stores through every command. -/

namespace Sys2Proof.Machine

open Sys2Proof.Safety

/-! ### Only a new request writes the staging store (R116) -/

@[simp] theorem State.removeHead_staging (s : State) : s.removeHead.pub.staging = s.pub.staging := by
  unfold State.removeHead
  split
  · rfl
  · rw [State.spaceFreed_eq]

@[simp] theorem State.holdIf_staging (s : State) (b : Bool) : (s.holdIf b).pub.staging = s.pub.staging := by cases b <;> rfl

@[simp] theorem State.attempt_staging (s : State) : s.attempt.pub.staging = s.pub.staging := by
  unfold State.attempt
  split <;> rfl

@[simp] theorem State.resend_staging (s : State) : s.resend.pub.staging = s.pub.staging := by
  unfold State.resend
  split <;> rfl

@[simp] theorem State.failedAttempt_staging (s : State) (x : Request) : (s.failedAttempt x).pub.staging = s.pub.staging := by
  unfold State.failedAttempt
  split <;> simp

@[simp] theorem State.requestReport_staging (s : State) (t : Transmission) (x : Request) (r : Report) :
    (s.requestReport t x r).pub.staging = s.pub.staging := by
  cases r <;> simp only [State.requestReport] <;> split <;> (try split) <;> simp

@[simp] theorem State.joinReport_staging (s : State) (r : Report) : (s.joinReport r).pub.staging = s.pub.staging := by
  cases r <;> simp only [State.joinReport, State.joinFailed] <;> (try split) <;> rfl

@[simp] theorem State.report_staging (s : State) (r : Report) : (s.report r).pub.staging = s.pub.staging := by
  rcases s.report_cases r with ⟨-, h⟩ | ⟨t, -, ⟨-, h⟩ | ⟨-, h⟩ | ⟨-, -, h⟩ | ⟨x, rest, -, -, h⟩⟩
  · rw [h]
  · rw [h, State.joinReport_staging]
  · obtain ⟨q, h'⟩ := State.welcomeReport_blocks { s with pub.transmission := none } r
    rw [h, h']
  · rw [h]
  · rw [h, State.requestReport_staging]

@[simp] theorem State.flushQueue_staging (s : State) : s.flushQueue.pub.staging = s.pub.staging := by
  rcases s.flushQueue_cases with ⟨-, -, h⟩ | ⟨-, -, h⟩ | ⟨-, h⟩
  · rw [h]
  · rw [h, State.spaceFreed_eq]
  · dsimp only at h
    rw [h]
    split
    · rw [State.spaceFreed_eq]
    · rfl

@[simp] theorem State.findDuplicate_staging (s : State) : s.findDuplicate.pub.staging = s.pub.staging := by
  unfold State.findDuplicate
  split <;> rfl

@[simp] theorem State.classify_staging (s : State) (r : Record) (own : Bool) : (s.classify r own).pub.staging = s.pub.staging := by
  have hbody (u : State) (before : StationState) (own : Bool) (id : Identity) (tag : Tag) (body : BurstBody) :
      (u.classifyBody before r own id tag body).pub = u.pub := by
    obtain ⟨j, l, o, b, q, h⟩ := u.classifyBody_blocks before r own id tag body
    rw [h]
  unfold State.classify
  dsimp only
  split
  · split
    · rw [State.holdOutcome_pub]
      split <;> simp
    · rw [hbody]
      split <;> simp
  · rfl

@[simp] theorem State.takeBit_staging (s : State) (bit : Bool) : (s.takeBit bit).pub.staging = s.pub.staging := by
  have hcomplete (u : State) : u.complete.pub.staging = u.pub.staging := by
    rcases Option.eq_none_or_eq_some u.record with hr | ⟨r, hr⟩
    · simp only [State.complete, hr]
    · obtain ⟨t, x, ht, h, -⟩ := u.complete_eq r hr
      rw [h, ht]
      exact State.classify_staging ..
  unfold State.takeBit
  dsimp only
  split
  · rw [hcomplete]
  · rfl

@[simp] theorem State.stopDriving_staging (s : State) (r : Report) : (s.stopDriving r).pub.staging = s.pub.staging :=
  s.report_staging r

/-! ### The six stores -/

theorem storesWf_iff (s : State) :
    StoresWf s ↔ s.frame.BanksWf ∧ Memory.wf Color.black s.intake.palette ∧ Memory.wf (RawPixel.idx8 0) s.pub.staging := by
  simp only [StoresWf, FrameStore.BanksWf, and_assoc]

/-- The stores of a state with the same banks, palette and staging store are as canonical. -/
theorem storesWf_congr {s t : State} (h : StoresWf s) (hframe : s.frame.BanksWf → t.frame.BanksWf)
    (hpalette : t.intake.palette = s.intake.palette) (hstaging : t.pub.staging = s.pub.staging) : StoresWf t := by
  rw [storesWf_iff] at h ⊢
  rw [hpalette, hstaging]
  exact ⟨hframe h.1, h.2⟩

theorem storesWf_settleBlocks {s : State} (h : StoresWf s) : StoresWf s.settleBlocks :=
  storesWf_congr h (fun hf => by rw [State.settleBlocks_frame]; exact hf.tryFlip) (by simp [State.settleBlocks])
    (by simp [State.settleBlocks])

theorem storesWf_beside {f : State → State} {s : State} (g : State → State) (h : StoresWf (f s)) : StoresWf (s.beside f g) := by
  obtain ⟨x, heq, -⟩ := s.beside_eq f g
  rw [heq]
  exact h

theorem storesWf_settle {s : State} (h : StoresWf s) : StoresWf s.settle := storesWf_beside _ (storesWf_settleBlocks h)

theorem storesWf_makeMarks {s : State} (h : StoresWf s) : StoresWf s.makeMarks := by
  obtain ⟨x, y, q, heq⟩ := s.makeMarks_blocks
  rw [heq]
  exact h

theorem storesWf_request {s : State} (h : StoresWf s) (body : RequestBody) (payload : List RawPixel) :
    StoresWf (s.request body payload).1 := by
  refine storesWf_settle ?_
  rcases s.takeRequest_cases body payload with ⟨-, -, heq⟩ | ⟨-, heq⟩
  · rw [heq]
    rw [storesWf_iff] at h ⊢
    exact ⟨h.1, h.2.1, Memory.wf_writeAll _ h.2.2⟩
  · rw [heq]
    exact h

theorem storesWf_startJoining {s : State} (h : StoresWf s) (r : Record) : StoresWf (s.startJoining r) := by
  refine storesWf_settle ?_
  rw [FrameStore.beginPasses_eq]
  exact h

theorem storesWf_configureWith {s : State} (h : StoresWf s) (r : Record) : StoresWf (s.configureWith r) := by
  unfold State.configureWith
  rw [FrameStore.passEnded_eq]
  exact h

theorem storesWf_softReset {s : State} (h : StoresWf s) : StoresWf s.softReset := by
  have habandon : StoresWf s.abandonCommit := by
    rw [storesWf_iff] at h ⊢
    obtain ⟨hframe, hpalette, hstaging⟩ := h
    unfold State.abandonCommit
    split
    · split
      · exact ⟨hframe.writeStripe .., hpalette, hstaging⟩
      · exact ⟨hframe.writeFill .., hpalette, hstaging⟩
      · exact ⟨hframe, wf_writePalette _ _ hpalette, hstaging⟩
    · exact ⟨hframe, hpalette, hstaging⟩
  refine storesWf_congr habandon (fun hf => ?_) rfl rfl
  show FrameStore.BanksWf (FrameStore.softReset _ _ _)
  unfold FrameStore.softReset
  cases s.abandonCommit.record with
  | none => exact hf
  | some r => exact (hf.cancelPass ..).cancelPass ..

theorem storesWf_finishCommit {s : State} (h : StoresWf s) : StoresWf s.finishCommit := by
  refine storesWf_congr h (fun hf => ?_) rfl rfl
  rw [State.finishCommit_frame, FrameStore.commitEnded_eq]
  exact hf

theorem storesWf_stopDriving {s : State} (h : StoresWf s) (r : Report) : StoresWf (s.stopDriving r) := by
  obtain ⟨j, l, b, p, q, heq⟩ := s.stopDriving_blocks r
  refine storesWf_congr h ?_ ?_ (by simp) <;> rw [heq]
  exact id

theorem storesWf_takeBit {s : State} (h : StoresWf s) (bit : Bool) : StoresWf (s.takeBit bit) := by
  obtain ⟨j, l, x, b, p, q, heq⟩ := s.takeBit_blocks bit
  refine storesWf_congr h ?_ ?_ (by simp) <;> rw [heq]
  exact id

theorem storesWf_ensureBit {s : State} (h : StoresWf s) : StoresWf s.ensureBit := by
  obtain ⟨l, heq⟩ := s.ensureBit_blocks
  rw [heq]
  exact h

theorem storesWf_ensureSlot {s : State} (h : StoresWf s) : StoresWf s.ensureSlot := by
  obtain ⟨l, q, heq⟩ := s.ensureSlot_blocks
  rw [heq]
  exact h

theorem storesWf_sampleSlot {s : State} (h : StoresWf s) (delivered : Bool) : StoresWf (s.sampleSlot delivered) := by
  obtain ⟨out, m, o, ro, i, d, w, x, q, heq⟩ := s.carryOut_blocks delivered
  obtain ⟨j, l, b, p, q', heq'⟩ := (s.carryOut delivered).report_blocks (if delivered then .delivered else .refused)
  refine storesWf_congr h ?_ ?_ ?_
  · simp only [State.sampleSlot, heq']
    rw [heq]
    exact id
  · simp only [State.sampleSlot, heq']
    rw [heq]
  · simp [State.sampleSlot, heq]

theorem storesWf_truncate {s : State} (h : StoresWf s) : StoresWf s.truncate := by
  refine storesWf_congr h (fun hf => ?_) (by simp) (by simp [State.truncate])
  rcases State.undoCompletion_cases { s with rx.outcome := none } with ⟨-, heq⟩ | ⟨u, -, heq⟩
  · simp only [State.truncate, heq]
    exact hf
  · simp only [State.truncate, heq]
    obtain ⟨_, _, _, _, _, _, _ | ⟨_, _, _, _ | _ | _⟩⟩ := u <;> exact hf

theorem storesWf_openStart {s : State} (h : StoresWf s) : StoresWf s.openStart := by
  unfold State.openStart
  split
  · exact storesWf_settle h
  · exact h

theorem storesWf_sampleStart {s : State} (h : StoresWf s) (l : Level) : StoresWf (s.sampleStart l) := by
  unfold State.sampleStart
  split
  · cases l
    · exact h
    · dsimp only
      split
      · exact storesWf_settle (storesWf_stopDriving (s := State.count { s with link := _ } _) h _)
      · exact h
  · exact h

theorem storesWf_expireBlocks {s : State} (h : StoresWf s) : StoresWf s.expireBlocks := by
  obtain ⟨j, b, q, heq⟩ := s.welcomeExpired_blocks
  unfold State.expireBlocks
  split
  · refine storesWf_settleBlocks ?_
    rw [heq]
    exact h
  · exact h

/-- Every command keeps the six stores canonical (R14, R116, R136). -/
theorem Effect.storesWf {s t : State} {c : Instr} (heffect : Effect s c t) (h : StoresWf s) : StoresWf t := by
  cases heffect with
  | nothing | port | clearCounters | firstConfirmedLevel | row | idleRestart => exact h
  | hardReset => exact ⟨h.1, h.2.1, h.2.2.1, h.2.2.2.1, Memory.wf_nil _, Memory.wf_nil _⟩
  | clearPass => exact ⟨Memory.wf_nil _, Memory.wf_nil _, Memory.wf_nil _, Memory.wf_nil _, h.2.2.2.2⟩
  | configure ps r p => exact storesWf_configureWith h r
  | start r p q => exact storesWf_startJoining (s := { s with port := p }) h r
  | reset p q => exact storesWf_softReset (s := { s with port := p }) h
  | request c body payload p q => exact storesWf_request (s := { s with port := p }) h body payload
  | flush p q =>
    refine storesWf_settle (storesWf_beside _ ?_)
    obtain ⟨p', q', hflush⟩ := State.flushQueue_blocks { s with port := p }
    refine storesWf_congr (s := { s with port := p }) h ?_ ?_ (State.flushQueue_staging _) <;> rw [hflush]
    exact id
  | busIdle => exact storesWf_settle h
  | truncate => exact storesWf_settle (storesWf_truncate h)
  | openStart => exact storesWf_openStart h
  | sampleStart l => exact storesWf_sampleStart (storesWf_openStart h) l
  | lost => exact storesWf_settle (storesWf_takeBit (storesWf_stopDriving (storesWf_ensureBit h) _) _)
  | bitError => exact storesWf_settle (storesWf_takeBit (storesWf_stopDriving (s := State.count _ _) (storesWf_ensureBit h) _) _)
  | completion => exact storesWf_settle (storesWf_takeBit (storesWf_ensureBit h) _)
  | slotResult => exact storesWf_settle (storesWf_sampleSlot (storesWf_ensureSlot h) _)
  | stripeCommit r e rest l f q slot =>
    refine storesWf_makeMarks (storesWf_settle (storesWf_finishCommit ?_))
    rw [storesWf_iff] at h ⊢
    exact ⟨h.1.writeStripe .., h.2⟩
  | fillCommit r e rest l q color transparent =>
    refine storesWf_makeMarks (storesWf_settle (storesWf_finishCommit ?_))
    rw [storesWf_iff] at h ⊢
    exact ⟨h.1.writeFill .., h.2⟩
  | paletteCommit e rest first slot =>
    refine storesWf_makeMarks (storesWf_settle (storesWf_finishCommit ?_))
    rw [storesWf_iff] at h ⊢
    exact ⟨h.1, wf_writePalette _ _ h.2.1, h.2.2⟩
  | confirmedRise =>
    refine storesWf_settle (storesWf_beside _ ?_)
    obtain ⟨p, j, x, ro, i, b, q, f₁, f₂, f₃, f₄, hrise⟩ := State.riseBlocks_blocks { s with barrier.confirmed := some .high }
    rw [hrise]
    exact h
  | confirmedFall => exact storesWf_beside _ (f := State.takeFall) h
  | faultWatchClear => exact storesWf_beside _ (f := State.clearFaultWatch) h
  | redriveDelay =>
    obtain ⟨b, hblocks⟩ := s.endRedrive_blocks
    exact storesWf_beside _ (by rw [hblocks]; exact h)
  | framePeriod =>
    obtain ⟨b, q, hblocks⟩ := s.reachPeriod_blocks
    exact storesWf_beside _ (by rw [hblocks]; exact h)
  | holdLimit =>
    obtain ⟨b, q, hblocks⟩ := s.holdReached_blocks
    exact storesWf_beside _ (by rw [hblocks]; exact h)
  | stallLimit =>
    obtain ⟨b, q, hblocks⟩ := s.reachStall_blocks
    exact storesWf_beside _ (by rw [hblocks]; exact h)
  | welcomeWait => exact storesWf_beside _ (storesWf_expireBlocks h)
  | lastRow r sc =>
    refine storesWf_makeMarks (storesWf_settle (storesWf_congr h (fun hf => ?_) rfl rfl))
    unfold FrameStore.lastRow
    rw [FrameStore.passEnded_eq]
    exact hf
  | passEnd r l =>
    refine storesWf_makeMarks (storesWf_settle (storesWf_congr h (fun hf => ?_) rfl rfl))
    cases l <;> exact hf.prepare ..
  | bitStart => exact storesWf_ensureBit h
  | slotStart => exact storesWf_ensureSlot h
  | bit => exact storesWf_takeBit (storesWf_ensureBit h) _

theorem storesWf_tick {s : State} (h : StoresWf s) : StoresWf s.tick := by
  refine storesWf_beside _ ?_
  obtain ⟨b, q, heq⟩ := s.tickFrame_blocks
  have hframe : StoresWf s.tickFrame := by
    rw [heq]
    exact h
  unfold State.tickWelcome
  split
  · split
    · exact hframe
    · exact storesWf_expireBlocks hframe
  · exact hframe

end Sys2Proof.Machine
end

section
/-! The statements of every command's next state and of the canonical stores: O2 and O55. -/

namespace Sys2Proof.Proofs

open Sys2Proof.Machine

/-- Settles O2: no meaning faults or refuses, and each is made of operations that leave the waiting commands alone. -/
theorem everyCommandEndsAndKeepsTheQueue : Obligations.EveryCommandEndsAndKeepsTheQueue := by
  intro c s
  obtain ⟨t, heq, heffect⟩ := exec_effect c s
  exact ⟨t, heq, heffect.pending⟩

/-- Settles O55: a step is the command at the front of the queue, or 100 µs of the timers, and both keep the stores canonical. -/
theorem stepKeepsTheStoresCanonical : Obligations.StepKeepsTheStoresCanonical := by
  intro s t h heq
  rcases step_cases heq with ⟨c, rest, -, hexec⟩ | ⟨-, rfl⟩
  · exact (effect_of_exec hexec).storesWf h
  · exact storesWf_tick h

end Sys2Proof.Proofs
end

section
/-! SUPPORT. The picture through every command: the shown banks and the selectors change by a flip alone. -/

namespace Sys2Proof.Machine

/-! ### The SHOWN flag stays pending once it is raised (R184) -/

/-- Every event flag that is pending stays pending. -/
def State.FlagsStay (s t : State) : Prop := ∀ n, s.port.events.getLsbD n = true → t.port.events.getLsbD n = true

theorem State.FlagsStay.refl (s : State) : s.FlagsStay s := fun _ => id

theorem State.FlagsStay.trans {s t u : State} (h : s.FlagsStay t) (h' : t.FlagsStay u) : s.FlagsStay u := fun n hn => h' n (h n hn)

theorem State.FlagsStay.of_events {s t : State} (h : t.port.events = s.port.events) : s.FlagsStay t := fun n => by rw [h]; exact id

theorem State.flagsStay_raise (s : State) (e : Event) : s.FlagsStay (s.raise e) := fun n hn => by simp [hn]

theorem State.flagsStay_raiseIf (s : State) (b : Bool) (e : Event) : s.FlagsStay (s.raiseIf b e) := by
  cases b
  · exact .refl s
  · exact s.flagsStay_raise e

theorem State.flagsStay_removeHead (s : State) : s.FlagsStay s.removeHead := by
  unfold State.removeHead State.spaceFreed
  split
  · exact .refl s
  · split
    · exact State.flagsStay_raise { s with pub := _ } .space
    · exact .refl s

theorem State.flagsStay_holdIf (s : State) (b : Bool) : s.FlagsStay (s.holdIf b) := by cases b <;> exact .refl s

theorem State.flagsStay_failedAttempt (s : State) (x : Request) : s.FlagsStay (s.failedAttempt x) := by
  unfold State.failedAttempt
  split
  · obtain ⟨p, h⟩ := s.attempt_blocks
    rw [h]
    exact .refl s
  · exact (s.flagsStay_removeHead.trans (State.flagsStay_raise (s.removeHead.count .dropped) .drop)).trans (State.flagsStay_holdIf _ _)

theorem State.flagsStay_requestReport (s : State) (t : Transmission) (x : Request) (r : Report) :
    s.FlagsStay (s.requestReport t x r) := by
  have hleaves (k : Counter) : s.FlagsStay ((s.removeHead.count k).holdIf (decide (x.body = .endFrame))) :=
    s.flagsStay_removeHead.trans (State.flagsStay_holdIf (s.removeHead.count k) _)
  have hovertaken : s.FlagsStay (if t.flush || decide (x.body = .endFrame) then s.removeHead else s.resend) := by
    split
    · exact s.flagsStay_removeHead
    · obtain ⟨p, h⟩ := s.resend_blocks
      rw [h]
      exact .refl s
  cases r <;> simp only [State.requestReport] <;> split
  · exact s.flagsStay_removeHead
  · exact .refl s
  · exact hovertaken
  · split
    · exact s.flagsStay_removeHead.trans (State.flagsStay_holdIf _ _)
    · exact s.flagsStay_failedAttempt x
  · exact hovertaken
  · exact hleaves .sent
  · exact hovertaken
  · split
    · exact hleaves .refusedTx
    · exact State.flagsStay_failedAttempt (s.count .refusedTx) x

theorem State.flagsStay_enterObserver (s : State) (reason : ObserverReason) : s.FlagsStay (s.enterObserver reason) :=
  State.flagsStay_raise { s with join := _, link := _, barrier := _, pub := _ } _

/-- A report acted on raises events and clears none (R121–R131). -/
theorem State.flagsStay_report (s : State) (r : Report) : s.FlagsStay (s.report r) := by
  have hfailed (u : State) : u.FlagsStay u.joinFailed := by
    unfold State.joinFailed
    dsimp only
    split
    · exact State.flagsStay_enterObserver { u with join.budget := _ } .refused
    · exact .refl u
  rcases s.report_cases r with ⟨-, h⟩ | ⟨t, -, ⟨-, h⟩ | ⟨-, h⟩ | ⟨-, -, h⟩ | ⟨x, rest, -, -, h⟩⟩ <;> rw [h]
  · exact .refl s
  · cases r
    · exact .refl s
    · exact hfailed { s with pub.transmission := none }
    · exact .refl s
    · exact hfailed (State.count { s with pub.transmission := none } .refusedTx)
  · cases r <;> exact .refl s
  · exact .refl s
  · exact State.flagsStay_requestReport { s with pub.transmission := none } t x r

theorem State.flagsStay_react (s : State) : s.FlagsStay s.react := by
  rcases s.react_cases with ⟨h, -⟩ | ⟨-, -, -, h⟩ | ⟨-, -, -, -, -, h⟩ | ⟨-, -, -, -, -, h⟩ <;> rw [h]
  · exact .refl s
  · exact .refl s
  · exact .refl s
  · exact State.flagsStay_raise { s with barrier := _, port.counters := _ } .overdue

/-- Settling raises events and clears none. -/
theorem State.flagsStay_settleBlocks (s : State) : s.tryFlip.FlagsStay s.settleBlocks := by
  unfold State.settleBlocks
  refine .trans (.trans (.of_events ?_) (State.flagsStay_react s.tryFlip.beginCommit)) (.of_events ?_) <;> simp

/-! ### What is shown -/

/-- What is shown stays: the selectors, and the contents of the banks they name. -/
def FrameStore.SameShown (f g : FrameStore) : Prop :=
  g.shownBase = f.shownBase ∧ g.shownOverlay = f.shownOverlay ∧ g.base g.shownBase = f.base f.shownBase ∧
    g.overlay g.shownOverlay = f.overlay f.shownOverlay

theorem FrameStore.SameShown.refl (f : FrameStore) : f.SameShown f := ⟨rfl, rfl, rfl, rfl⟩

theorem FrameStore.SameShown.trans {f g k : FrameStore} (h : f.SameShown g) (h' : g.SameShown k) : f.SameShown k :=
  ⟨h'.1.trans h.1, h'.2.1.trans h.2.1, h'.2.2.1.trans h.2.2.1, h'.2.2.2.trans h.2.2.2⟩

theorem FrameStore.OnlyFillBanks.sameShown {f g : FrameStore} (h : f.OnlyFillBanks g) : f.SameShown g :=
  ⟨h.shownBase, h.shownOverlay, by rw [h.shownBase]; exact h.2.1, by rw [h.shownOverlay]; exact h.2.2⟩

/-- The picture of a station `t` that comes after `s`: what `s` showed, or a flip of it has been made and nothing has asked for another
(R139, R140). -/
def State.Shows (s t : State) : Prop :=
  s.frame.SameShown t.frame ∨
  (t.frame.shownBase = s.frame.shownBase.other ∧ t.frame.shownOverlay = s.frame.shownOverlay.other ∧
    t.port.events.getLsbD 0 = true ∧ t.frame.request = none ∧ t.frame.stage = none ∧
    t.frame.base s.frame.shownBase = s.frame.base s.frame.shownBase ∧
    t.frame.overlay s.frame.shownOverlay = s.frame.overlay s.frame.shownOverlay)

theorem State.Shows.of_same {s t : State} (h : s.frame.SameShown t.frame) : s.Shows t := .inl h

/-- An operation that leaves the Frame Store alone and lowers no flag keeps the picture. -/
theorem State.Shows.of_frame {s t u : State} (h : s.Shows t) (hframe : u.frame = t.frame) (hflags : t.FlagsStay u) : s.Shows u := by
  rcases h with h | ⟨hbase, hoverlay, hshown, hrest⟩
  · exact .inl (by rw [hframe]; exact h)
  · exact .inr (by rw [hframe]; exact ⟨hbase, hoverlay, hflags 0 hshown, hrest⟩)

theorem State.Shows.settleBlocks {s t : State} (h : s.Shows t) : s.Shows t.settleBlocks := by
  rcases h with h | hflipped
  · rcases t.tryFlip_cases with ⟨heq, -⟩ | ⟨r, q, -, -, -, heq⟩
    · exact .inl (by rw [State.settleBlocks_frame, heq]; exact h)
    · have hframe : t.settleBlocks.frame = t.frame.flip r q := by
        rw [State.settleBlocks_frame, heq]
        cases q.damage <;> rfl
      have hshown : t.settleBlocks.port.events.getLsbD 0 = true := by
        refine t.flagsStay_settleBlocks 0 ?_
        rw [heq]
        exact State.flagsStay_raiseIf _ _ _ 0 (by simp [Event.bit])
      obtain ⟨hbase, hoverlay, hbank, hbank'⟩ := h
      rw [hbase] at hbank
      rw [hoverlay] at hbank'
      refine .inr ⟨?_, ?_, hshown, ?_⟩ <;> rw [hframe, FrameStore.flip_eq]
      · rw [hbase]
      · rw [hoverlay]
      · exact ⟨rfl, rfl, hbank, hbank'⟩
  · have hframe : t.tryFlip = t := State.tryFlip_of_no_request hflipped.2.2.2.1
    refine State.Shows.of_frame (.inr hflipped) ?_ ?_
    · rw [State.settleBlocks_frame, hframe]
    · simpa only [hframe] using t.flagsStay_settleBlocks

theorem State.Shows.beside {f : State → State} {s t : State} (g : State → State) (h : s.Shows (f t)) : s.Shows (t.beside f g) := by
  obtain ⟨x, heq, -⟩ := t.beside_eq f g
  rw [heq]
  exact h

theorem State.Shows.settle {s t : State} (h : s.Shows t) : s.Shows t.settle := State.Shows.beside _ h.settleBlocks

theorem State.Shows.makeMarks {s t : State} (h : s.Shows t) : s.Shows t.makeMarks := by
  rcases t.makeMarks_cases with ⟨-, heq⟩ | ⟨-, q, hq, heq⟩ | ⟨-, hq, heq⟩
  · rwa [heq]
  · rw [heq]
    rcases h with h | ⟨-, -, -, hnone, -⟩
    · exact .inl h
    · simp [hq] at hnone
  · rw [heq]
    rcases h with h | ⟨hbase, hoverlay, hshown, hrest⟩
    · exact .inl h
    · exact .inr ⟨hbase, hoverlay, State.flagsStay_raise { t with frame := _ } .damage 0 hshown, hrest⟩

/-! ### Operations that keep what is shown -/

theorem FrameStore.sameShown_commitEnded (f : FrameStore) : f.SameShown f.commitEnded := by
  rw [FrameStore.commitEnded_eq]
  exact .refl f

theorem FrameStore.sameShown_passEnded (f : FrameStore) : f.SameShown f.passEnded := by
  rw [FrameStore.passEnded_eq]
  exact .refl f

theorem FrameStore.sameShown_endPass (f : FrameStore) (r : Record) (l : Layer) : f.SameShown (f.endPass r l) :=
  (f.onlyFillBanks_prepare (r.mode l) l r.inUse).sameShown.trans (by cases l <;> exact .refl _)

theorem FrameStore.sameShown_beginPasses (f : FrameStore) (r : Record) : f.SameShown (f.beginPasses r) := by
  rw [FrameStore.beginPasses_eq]
  exact .refl f

theorem State.sameShown_softReset (s : State) : s.frame.SameShown s.softReset.frame := by
  have habandon : s.frame.SameShown s.abandonCommit.frame := by
    unfold State.abandonCommit
    split
    · split
      · exact (s.frame.onlyFillBanks_writeStripe ..).sameShown
      · exact (s.frame.onlyFillBanks_writeFill ..).sameShown
      · exact .refl _
    · exact .refl _
  refine habandon.trans ?_
  show FrameStore.SameShown _ (FrameStore.softReset _ _ _)
  unfold FrameStore.softReset
  cases s.abandonCommit.record with
  | none => exact .refl _
  | some r => exact ((FrameStore.onlyFillBanks_cancelPass _ r .base _).trans (FrameStore.onlyFillBanks_cancelPass _ r .overlay _)).sameShown

theorem State.sameShown_putBack (s : State) (u : Undo) : s.frame.SameShown (s.putBack u).frame := by
  obtain ⟨_, _, _, _, _, _, _ | ⟨_, _, _, _ | _ | _⟩⟩ := u <;> exact .refl _

theorem State.sameShown_truncate (s : State) : s.frame.SameShown s.truncate.frame := by
  rcases State.undoCompletion_cases { s with rx.outcome := none } with ⟨-, heq⟩ | ⟨u, -, heq⟩ <;>
    simp only [State.truncate, heq]
  · exact .refl _
  · exact State.sameShown_putBack { s with rx.outcome := none } u

@[simp] theorem State.stopDriving_frame (s : State) (r : Report) : (s.stopDriving r).frame = s.frame := by
  obtain ⟨j, l, b, p, q, h⟩ := s.stopDriving_blocks r
  rw [h]

@[simp] theorem State.takeBit_frame (s : State) (bit : Bool) : (s.takeBit bit).frame = s.frame := by
  obtain ⟨j, l, x, b, p, q, h⟩ := s.takeBit_blocks bit
  rw [h]

@[simp] theorem State.ensureBit_frame (s : State) : s.ensureBit.frame = s.frame := by
  obtain ⟨l, h⟩ := s.ensureBit_blocks
  rw [h]

@[simp] theorem State.ensureSlot_frame (s : State) : s.ensureSlot.frame = s.frame := by
  obtain ⟨l, q, h⟩ := s.ensureSlot_blocks
  rw [h]

theorem State.sameShown_sampleSlot (s : State) (delivered : Bool) : s.frame.SameShown (s.sampleSlot delivered).frame := by
  obtain ⟨out, m, o, ro, i, d, w, x, q, h⟩ := s.carryOut_blocks delivered
  obtain ⟨j, l, b, p, q', h'⟩ := (s.carryOut delivered).report_blocks (if delivered then .delivered else .refused)
  simp only [State.sampleSlot, h']
  rw [h]
  exact .refl _

theorem State.shows_openStart (s : State) : s.Shows s.openStart := by
  unfold State.openStart
  split
  · exact State.Shows.settle (.of_same (.refl _))
  · exact .of_same (.refl _)

theorem State.Shows.sampleStart {s t : State} (h : s.Shows t) (l : Level) : s.Shows (t.sampleStart l) := by
  unfold State.sampleStart
  split
  · cases l
    · exact h.of_frame rfl (.refl t)
    · dsimp only
      split
      · refine State.Shows.settle (h.of_frame (by simp) ?_)
        exact State.flagsStay_report (State.count { t with link := { t.link with view := .waiting, idleCount := 0 } } .bitErrors) .bitError
      · exact h.of_frame rfl (.refl t)
  · exact h

theorem State.shows_expireBlocks {s t : State} (hframe : t.frame = s.frame) : s.Shows t.expireBlocks := by
  obtain ⟨j, b, q, heq⟩ := t.welcomeExpired_blocks
  unfold State.expireBlocks
  split
  · rw [heq]
    refine State.Shows.settleBlocks (.of_same ?_)
    rw [hframe]
    exact .refl _
  · exact .of_same (by rw [hframe]; exact .refl _)

/-- No command but a hard reset and the end of the start-up clear pass changes what is shown, except by a flip (R136, R140). -/
theorem Effect.shows {s t : State} {c : Instr} (heffect : Effect s c t) (hhard : c ≠ .hardReset) (hclear : c ≠ .startUpClearPass) :
    s.Shows t := by
  have hof {u : State} (h : u.frame = s.frame) : s.Shows u := .of_same (by rw [h]; exact .refl _)
  cases heffect with
  | hardReset => exact absurd rfl hhard
  | clearPass => exact absurd rfl hclear
  | nothing | port | clearCounters | firstConfirmedLevel | row | idleRestart => exact .of_same (.refl _)
  | configure ps r p => exact .of_same s.frame.sameShown_passEnded
  | start r p q hr h hq =>
    refine State.Shows.of_frame (t := State.startJoining { s with port := p } r) ?_ rfl (.of_events (by rw [hq]))
    exact State.Shows.settle (.of_same (s.frame.sameShown_beginPasses r))
  | reset p q => exact .of_same (State.sameShown_softReset { s with port := p })
  | request c body payload p q hc h hbody hq =>
    obtain ⟨p', hblocks⟩ := State.takeRequest_blocks { s with port := p } body payload
    refine State.Shows.of_frame (t := (State.request { s with port := p } body payload).1) ?_ rfl (.of_events (by rw [hq]))
    exact State.Shows.settle (hof (by rw [hblocks]))
  | flush p q hq =>
    obtain ⟨p', q', hblocks⟩ := State.flushQueue_blocks { s with port := p }
    refine State.Shows.of_frame (t := (State.beside State.flushQueue State.flushQueue { s with port := p }).settle) ?_ rfl
      (.of_events (by rw [hq]))
    exact State.Shows.settle (State.Shows.beside _ (hof (by rw [hblocks])))
  | busIdle => exact State.Shows.settle (hof rfl)
  | truncate => exact State.Shows.settle (.of_same s.sameShown_truncate)
  | openStart => exact s.shows_openStart
  | sampleStart l => exact s.shows_openStart.sampleStart l
  | lost | bitError | completion => exact State.Shows.settle (hof (by simp))
  | slotResult l =>
    have h := s.ensureSlot.sameShown_sampleSlot l.bit
    rw [s.ensureSlot_frame] at h
    exact State.Shows.settle (.of_same h)
  | stripeCommit r e rest l f q slot =>
    exact State.Shows.makeMarks (State.Shows.settle (.of_same
      ((s.frame.onlyFillBanks_writeStripe ..).sameShown.trans (FrameStore.sameShown_commitEnded _))))
  | fillCommit r e rest l q color transparent =>
    exact State.Shows.makeMarks (State.Shows.settle (.of_same
      ((s.frame.onlyFillBanks_writeFill ..).sameShown.trans (FrameStore.sameShown_commitEnded _))))
  | paletteCommit => exact State.Shows.makeMarks (State.Shows.settle (.of_same s.frame.sameShown_commitEnded))
  | confirmedRise =>
    refine State.Shows.settle (State.Shows.beside _ (.of_same ?_))
    obtain ⟨p, j, x, ro, i, b, q, f₁, f₂, f₃, f₄, hrise⟩ := State.riseBlocks_blocks { s with barrier.confirmed := some .high }
    rw [hrise]
    exact .refl _
  | confirmedFall => exact State.Shows.beside _ (hof rfl)
  | faultWatchClear => exact State.Shows.beside _ (hof rfl)
  | redriveDelay =>
    obtain ⟨b, hblocks⟩ := s.endRedrive_blocks
    exact State.Shows.beside _ (hof (by rw [hblocks]))
  | framePeriod =>
    obtain ⟨b, q, hblocks⟩ := s.reachPeriod_blocks
    exact State.Shows.beside _ (hof (by rw [hblocks]))
  | holdLimit =>
    obtain ⟨b, q, hblocks⟩ := s.holdReached_blocks
    exact State.Shows.beside _ (hof (by rw [hblocks]))
  | stallLimit =>
    obtain ⟨b, q, hblocks⟩ := s.reachStall_blocks
    exact State.Shows.beside _ (hof (by rw [hblocks]))
  | lastRow => exact State.Shows.makeMarks (State.Shows.settle (.of_same s.frame.sameShown_passEnded))
  | passEnd r l => exact State.Shows.makeMarks (State.Shows.settle (.of_same (s.frame.sameShown_endPass r l)))
  | welcomeWait => exact State.Shows.beside _ (State.shows_expireBlocks rfl)
  | bitStart | slotStart | bit => exact hof (by simp)

theorem State.tick_shows (s : State) : s.Shows s.tick := by
  obtain ⟨b, q, heq⟩ := s.tickFrame_blocks
  refine State.Shows.beside _ ?_
  have hframe : s.tickFrame.frame = s.frame := by rw [heq]
  unfold State.tickWelcome
  split
  · split
    · exact .of_same (by rw [hframe]; exact .refl _)
    · exact State.shows_expireBlocks hframe
  · exact .of_same (by rw [hframe]; exact .refl _)

end Sys2Proof.Machine
end

section
/-! The statement of the picture: O48. -/

namespace Sys2Proof.Proofs

open Sys2Proof.Machine

/-- Settles O48: each command keeps what is shown up to its settling, and settling flips at most once. -/
theorem onlyAFlipChangesThePicture : Obligations.OnlyAFlipChangesThePicture := by
  intro s t heq hhard hclear
  rcases step_cases heq with ⟨c, rest, hpending, hexec⟩ | ⟨-, rfl⟩
  · rw [hpending] at hhard hclear
    exact (effect_of_exec hexec).shows (fun h => hhard (by simp [h])) (fun h => hclear (by simp [h]))
  · exact s.tick_shows

end Sys2Proof.Proofs
end

section
/-! SUPPORT. The roster through bursts and agings, and the forms of the roster, the intake queue and the missed list through every
command. -/

namespace Sys2Proof.Machine

open Sys2Proof.Safety

/-! ### The roster keeps its form (R75) -/

/-- The form of a roster: at most 16 entries, no two of one station, each with a legal combination of fields (R75). -/
def RosterLegal (roster : List RosterEntry) : Prop :=
  roster.length ≤ 16 ∧ (roster.map RosterEntry.station).Nodup ∧ ∀ e ∈ roster, EntryLegal e

theorem rosterWf_iff (s : State) : RosterWf s ↔ RosterLegal s.roster := Iff.rfl

theorem rosterLegal_nil : RosterLegal [] := ⟨by simp, by simp, by simp⟩

/-- A change entry by entry that keeps the stations and the legality keeps the form. -/
theorem RosterLegal.map {roster : List RosterEntry} (h : RosterLegal roster) {f : RosterEntry → RosterEntry}
    (hstation : ∀ e, (f e).station = e.station) (hlegal : ∀ e, EntryLegal e → EntryLegal (f e)) : RosterLegal (roster.map f) := by
  obtain ⟨hlength, hnodup, hall⟩ := h
  refine ⟨by simpa using hlength, ?_, ?_⟩
  · rw [List.map_map, show RosterEntry.station ∘ f = RosterEntry.station from funext hstation]
    exact hnodup
  · intro e he
    obtain ⟨x, hx, rfl⟩ := List.mem_map.1 he
    exact hlegal x (hall x hx)

theorem RosterLegal.filter {roster : List RosterEntry} (h : RosterLegal roster) (p : RosterEntry → Bool) :
    RosterLegal (roster.filter p) := by
  obtain ⟨hlength, hnodup, hall⟩ := h
  exact ⟨(List.length_filter_le ..).trans hlength, hnodup.sublist (List.filter_sublist.map _),
    fun e he => hall e (List.mem_of_mem_filter he)⟩

theorem RosterLegal.concat {roster : List RosterEntry} (h : RosterLegal roster) {e : RosterEntry} (hlength : roster.length < 16)
    (hnew : ∀ x ∈ roster, x.station ≠ e.station) (he : EntryLegal e) : RosterLegal (roster ++ [e]) := by
  obtain ⟨-, hnodup, hall⟩ := h
  refine ⟨by simpa using hlength, ?_, ?_⟩
  · rw [List.map_append, List.nodup_append]
    refine ⟨hnodup, by simp, ?_⟩
    simp only [List.mem_map, List.map_cons, List.map_nil, List.mem_singleton]
    rintro a ⟨x, hx, rfl⟩ b rfl
    exact hnew x hx
  · intro x hx
    rcases List.mem_append.1 hx with hx | hx
    · exact hall x hx
    · rw [List.mem_singleton.1 hx]
      exact he

theorem markHeard_legal {roster : List RosterEntry} (h : RosterLegal roster) (n : StationNumber) : RosterLegal (markHeard roster n) := by
  refine h.map (fun e => ?_) (fun e he => ?_) <;> split
  · rfl
  · rfl
  · exact he
  · exact he

theorem RosterEntry.onBurst_station (e : RosterEntry) (k : Kind) : (e.onBurst k).station = e.station := by
  cases k <;> cases h : e.state <;> simp [RosterEntry.onBurst, h]

theorem RosterEntry.onBurst_legal {e : RosterEntry} (h : EntryLegal e) (k : Kind) : EntryLegal (e.onBurst k) := by
  cases k <;> cases hstate : e.state <;> simp_all [RosterEntry.onBurst, EntryLegal]

theorem newEntry_legal {n : StationNumber} {k : Kind} {e : RosterEntry} (h : newEntry n k = some e) : e.station = n ∧ EntryLegal e := by
  cases k <;> simp only [newEntry, Option.some.injEq, reduceCtorEq] at h <;> subst h <;> simp [EntryLegal]

theorem evictee_mem {roster : List RosterEntry} {v : RosterEntry} (h : evictee roster = some v) : v ∈ roster :=
  List.mem_of_find?_eq_some h

theorem addEntry_legal {roster : List RosterEntry} (h : RosterLegal roster) {e : RosterEntry}
    (hnew : ∀ x ∈ roster, x.station ≠ e.station) (he : EntryLegal e) : RosterLegal (addEntry roster e).roster := by
  unfold addEntry
  split
  · exact h.concat ‹_› hnew he
  · split
    · rename_i v hv
      refine (h.filter _).concat ?_ (fun x hx => hnew x (List.mem_of_mem_filter hx)) he
      refine lt_of_lt_of_le ?_ h.1
      rw [List.length_filter_lt_length_iff_exists]
      exact ⟨v, evictee_mem hv, by simp⟩
    · exact h

theorem hasEntry_iff {roster : List RosterEntry} {n : StationNumber} : hasEntry roster n = true ↔ ∃ e ∈ roster, e.station = n := by
  simp [hasEntry]

theorem rosterOnBurst_legal {roster : List RosterEntry} (h : RosterLegal roster) (n : StationNumber) (k : Kind) :
    RosterLegal (rosterOnBurst roster n k).roster := by
  unfold rosterOnBurst
  split
  · refine h.map (fun e => ?_) (fun e he => ?_) <;> split
    · exact e.onBurst_station k
    · rfl
    · exact RosterEntry.onBurst_legal he k
    · exact he
  · rename_i hnone
    split
    · rename_i e he
      obtain ⟨rfl, hlegal⟩ := newEntry_legal he
      exact addEntry_legal h (fun x hx hstation => hnone (hasEntry_iff.2 ⟨x, hx, hstation⟩)) hlegal
    · exact h

theorem RosterEntry.aged_station {e e' : RosterEntry} (h : e.aged = some e') : e'.station = e.station := by
  unfold RosterEntry.aged at h
  split at h
  · cases h
    rfl
  · split at h <;> cases h <;> rfl
  · split at h <;> cases h <;> rfl
  · split at h
    · cases h
      rfl
    · split at h <;> cases h
      rfl

theorem RosterEntry.aged_legal {e e' : RosterEntry} (hlegal : EntryLegal e) (h : e.aged = some e') : EntryLegal e' := by
  obtain ⟨hended, hlive, hlaggard, hother⟩ := hlegal
  unfold RosterEntry.aged at h
  split at h
  · rename_i hstate
    cases h
    exact ⟨by simp, fun _ => by simp [hended hstate], by simp, fun _ => hother (by simp [hstate])⟩
  · rename_i hstate
    split at h <;> cases h
    · exact ⟨by simp, fun _ => by dsimp only; omega, by simp, fun _ => hother (by simp [hstate])⟩
    · exact ⟨by simp, by simp, by simp, by simp⟩
  · rename_i hstate
    split at h <;> cases h
    · exact ⟨by simp, fun _ => by dsimp only; omega, by simp, fun _ => hother (by simp [hstate])⟩
    · exact ⟨by simp, by simp, by simp, by simp⟩
  · rename_i hstate
    obtain ⟨hoverdue, hsilence⟩ := hlaggard hstate
    split at h
    · cases h
      exact ⟨by simp [hstate], by simp [hstate], fun _ => ⟨hoverdue, by simp⟩, by simp⟩
    · split at h <;> cases h
      exact ⟨by simp [hstate], by simp [hstate], fun _ => ⟨hoverdue, by dsimp only; omega⟩, by simp [hstate]⟩

theorem ageRoster_legal {roster : List RosterEntry} (h : RosterLegal roster) : RosterLegal (ageRoster roster).roster := by
  have hstations : ∀ roster : List RosterEntry,
      ((roster.filterMap RosterEntry.aged).map RosterEntry.station).Sublist (roster.map RosterEntry.station) := by
    intro roster
    induction roster with
    | nil => exact .slnil
    | cons e roster ih =>
      cases he : e.aged with
      | none => rw [List.filterMap_cons_none he]; exact ih.cons _
      | some e' =>
        rw [List.filterMap_cons_some he, List.map_cons, List.map_cons, RosterEntry.aged_station he]
        exact ih.cons_cons _
  obtain ⟨hlength, hnodup, hall⟩ := h
  refine RosterLegal.map ⟨(List.length_filterMap_le ..).trans hlength, hnodup.sublist (hstations roster), fun e he => ?_⟩
    (fun e => rfl) (fun e he => he)
  obtain ⟨x, hx, hxe⟩ := List.mem_filterMap.1 he
  exact RosterEntry.aged_legal (hall x hx) hxe

/-! ### Where the roster changes -/

@[simp] theorem State.beside_roster (f g : State → State) (s : State) : (s.beside f g).roster = (f s).roster := by
  obtain ⟨x, h, -⟩ := s.beside_eq f g
  rw [h]

@[simp] theorem State.makeMarks_roster (s : State) : s.makeMarks.roster = s.roster := by
  obtain ⟨x, y, q, h⟩ := s.makeMarks_blocks
  rw [h]

@[simp] theorem State.report_roster (s : State) (r : Report) : (s.report r).roster = s.roster := by
  obtain ⟨j, l, b, p, q, h⟩ := s.report_blocks r
  rw [h]

@[simp] theorem State.stopDriving_roster (s : State) (r : Report) : (s.stopDriving r).roster = s.roster := s.report_roster r

@[simp] theorem State.takeBit_roster (s : State) (bit : Bool) : (s.takeBit bit).roster = s.roster := by
  obtain ⟨j, l, x, b, p, q, h⟩ := s.takeBit_blocks bit
  rw [h]

@[simp] theorem State.ensureBit_roster (s : State) : s.ensureBit.roster = s.roster := by
  obtain ⟨l, h⟩ := s.ensureBit_blocks
  rw [h]

@[simp] theorem State.ensureSlot_roster (s : State) : s.ensureSlot.roster = s.roster := by
  obtain ⟨l, q, h⟩ := s.ensureSlot_blocks
  rw [h]

@[simp] theorem State.openStart_roster (s : State) : s.openStart.roster = s.roster := by
  unfold State.openStart
  split <;> simp

@[simp] theorem State.sampleStart_roster (s : State) (l : Level) : (s.sampleStart l).roster = s.roster := by
  unfold State.sampleStart
  split
  · cases l
    · rfl
    · dsimp only
      split <;> simp
  · rfl

@[simp] theorem State.request_roster (s : State) (body : RequestBody) (payload : List RawPixel) :
    (s.request body payload).1.roster = s.roster := by
  obtain ⟨p, h⟩ := s.takeRequest_blocks body payload
  simp [State.request, h]

@[simp] theorem State.flushQueue_roster (s : State) : s.flushQueue.roster = s.roster := by
  obtain ⟨p, q, h⟩ := s.flushQueue_blocks
  rw [h]

@[simp] theorem State.settleBlocks_roster (s : State) : s.settleBlocks.roster = s.roster := by
  obtain ⟨l, i, b, p, f, q, h⟩ := s.settleBlocks_blocks
  rw [h]

@[simp] theorem State.expireBlocks_roster (s : State) : s.expireBlocks.roster = s.roster := by
  obtain ⟨j, b, q, h⟩ := s.welcomeExpired_blocks
  unfold State.expireBlocks
  split <;> simp [h]

theorem State.carryOut_roster_legal {s : State} (h : RosterLegal s.roster) (delivered : Bool) :
    RosterLegal (s.carryOut delivered).roster := by
  have hwith (u : State) (c : RosterChange) : (u.withRoster c).roster = c.roster := by
    obtain ⟨q, hq⟩ := u.withRoster_blocks c
    rw [hq]
  have hcarry (u : State) (id : Identity) (p : RosterPart) (hu : RosterLegal u.roster) : RosterLegal (u.carryRoster id p).roster := by
    cases p with
    | heardOnly => exact markHeard_legal hu _
    | update => exact markHeard_legal (by rw [hwith]; exact rosterOnBurst_legal hu _ _) _
    | withdraw =>
      show RosterLegal (u.withRoster _).roster
      rw [hwith]
      exact hu.filter _
  rcases s.carryOut_cases delivered with ⟨-, heq⟩ | ⟨o, -, heq⟩
  · rwa [heq]
  · have hlegal := hcarry { s with rx.outcome := none } o.identity o.roster h
    obtain ⟨m, o', i, d, x, h₁⟩ :=
      (State.carryRoster { s with rx.outcome := none } o.identity o.roster).carryContent_blocks o.identity o.content
    obtain ⟨w, h₂⟩ := State.carryWelcome_blocks (State.carryContent (State.carryRoster { s with rx.outcome := none } o.identity o.roster)
      o.identity o.content) o delivered
    rw [heq, h₂, h₁]
    exact hlegal

theorem State.swapEdge_roster (s : State) : s.swapEdge.roster = (ageRoster s.roster).roster := by
  obtain ⟨q, hmoves, -, -⟩ := s.edgeMoves_eq
  rcases s.swapEdge_cases with ⟨-, h⟩ | ⟨-, -, h⟩ | ⟨-, -, h⟩
  · rw [h, hmoves]
  · obtain ⟨x, q', h'⟩ := s.edgeMoves.markDamage_blocks
    rw [h, h', hmoves]
  · rw [h, hmoves]

theorem State.riseBlocks_roster_legal {s : State} (h : RosterLegal s.roster) : RosterLegal s.riseBlocks.roster := by
  rcases s.riseBlocks_cases with heq | heq | heq | heq
  · rw [heq, State.swapEdge_roster]
    exact ageRoster_legal h
  · obtain ⟨b, q, h'⟩ := s.electricalFault_blocks
    rw [heq, h']
    exact h
  · rw [heq]
    exact h
  · rw [heq]
    exact h

/-- Every command keeps the roster's form (R75–R90). -/
theorem Effect.rosterLegal {s t : State} {c : Instr} (heffect : Effect s c t) (h : RosterLegal s.roster) : RosterLegal t.roster := by
  have hof {u : State} (hu : u.roster = s.roster) : RosterLegal u.roster := by rwa [hu]
  cases heffect with
  | nothing | port | clearCounters | firstConfirmedLevel | row | idleRestart | clearPass | configure => exact h
  | hardReset | reset => exact rosterLegal_nil
  | start => exact hof (by simp [State.startJoining])
  | request | flush | busIdle | truncate | openStart | sampleStart | lost | bitError | completion | stripeCommit | fillCommit
  | paletteCommit | lastRow | passEnd | bitStart | slotStart | bit => exact hof (by simp)
  | slotResult l =>
    obtain ⟨j, l', b, p, q, h'⟩ := (s.ensureSlot.carryOut l.bit).report_blocks (if l.bit then .delivered else .refused)
    have hslot : RosterLegal s.ensureSlot.roster := hof (by simp)
    simp only [State.settle_roster, State.sampleSlot, h']
    exact State.carryOut_roster_legal hslot l.bit
  | confirmedRise =>
    simp only [State.settle_roster, State.takeRise, State.beside_roster]
    exact State.riseBlocks_roster_legal (s := { s with barrier.confirmed := some .high }) h
  | confirmedFall => exact hof (by simp [State.takeFall])
  | faultWatchClear => exact hof (by simp [State.clearFaultWatch])
  | redriveDelay =>
    obtain ⟨b, heq⟩ := s.endRedrive_blocks
    exact hof (by simp [heq])
  | framePeriod =>
    obtain ⟨b, q, heq⟩ := s.reachPeriod_blocks
    exact hof (by simp [heq])
  | holdLimit =>
    obtain ⟨b, q, heq⟩ := s.holdReached_blocks
    exact hof (by simp [heq])
  | stallLimit =>
    obtain ⟨b, q, heq⟩ := s.reachStall_blocks
    exact hof (by simp [heq])
  | welcomeWait => exact hof (by simp [State.expireWelcome])

/-- Time alone changes neither the roster nor the Receiver's lists nor the queues. -/
theorem State.tickWelcome_blocks (s : State) :
    ∃ j b q l i p f, s.tickWelcome =
      { s with join := j, barrier := b, port := q, link := l, intake := i, pub := p, frame := f } := by
  obtain ⟨j, b, q, h⟩ := s.welcomeExpired_blocks
  obtain ⟨l, i, b', p, f, q', h'⟩ := s.welcomeExpired.settleBlocks_blocks
  unfold State.tickWelcome
  split
  · split
    · exact ⟨_, _, _, _, _, _, _, rfl⟩
    · unfold State.expireBlocks
      split
      · rw [h', h]
        exact ⟨_, _, _, _, _, _, _, rfl⟩
      · exact ⟨_, _, _, _, _, _, _, rfl⟩
  · exact ⟨_, _, _, _, _, _, _, rfl⟩

theorem State.tick_blocks (s : State) :
    ∃ j b q l i p f, s.tickFrame.tickWelcome =
      { s with join := j, barrier := b, port := q, link := l, intake := i, pub := p, frame := f } := by
  obtain ⟨b, q, h⟩ := s.tickFrame_blocks
  obtain ⟨j, b', q', l, i, p, f, h'⟩ := s.tickFrame.tickWelcome_blocks
  rw [h', h]
  exact ⟨_, _, _, _, _, _, _, rfl⟩

@[simp] theorem State.tick_roster (s : State) : s.tick.roster = s.roster := by
  obtain ⟨j, b, q, l, i, p, f, h⟩ := s.tick_blocks
  simp [State.tick, h]

end Sys2Proof.Machine
end

section
/-! SUPPORT. The intake queue with its reservation, and the missed list, through every command. -/

namespace Sys2Proof.Machine

open Sys2Proof.Safety

/-! ### What the two forms rest on -/

/-- The bound of the intake queue, on what it rests on: the queue and the pending outcome (R96, R97). -/
def IntakeFits (queue : List IntakeEntry) (o : Option PendingOutcome) : Prop :=
  queue.length + (if Receiver.reserved { Receiver.reset with outcome := o } then 1 else 0) ≤ 4

theorem intakeBounded_iff (s : State) : IntakeBounded s ↔ IntakeFits s.intake.queue s.rx.outcome := Iff.rfl

theorem IntakeFits.length {queue : List IntakeEntry} {o : Option PendingOutcome} (h : IntakeFits queue o) : queue.length ≤ 4 := by
  unfold IntakeFits at h
  omega

theorem intakeFits_none {queue : List IntakeEntry} (h : queue.length ≤ 4) : IntakeFits queue none := by simpa [IntakeFits, Receiver.reserved]

/-- With fewer entries the bound stays. -/
theorem IntakeFits.mono {queue queue' : List IntakeEntry} {o : Option PendingOutcome} (h : IntakeFits queue o)
    (hle : queue'.length ≤ queue.length) : IntakeFits queue' o := by
  unfold IntakeFits at h ⊢
  omega

theorem intakeFits_of_lt {queue : List IntakeEntry} (h : queue.length < 4) (o : Option PendingOutcome) : IntakeFits queue o := by
  unfold IntakeFits
  split <;> omega

theorem intakeFits_of_not_reserved {queue : List IntakeEntry} (h : queue.length ≤ 4) {o : PendingOutcome}
    (ho : ∀ e, o.content ≠ .reserved e) : IntakeFits queue (some o) := by
  unfold IntakeFits Receiver.reserved
  cases hc : o.content with
  | reserved e => exact absurd hc (ho e)
  | nothing | noRoom | look => simpa [hc] using h

theorem IntakeFits.lt_of_reserved {queue : List IntakeEntry} {o : PendingOutcome} {e : IntakeEntry} (h : IntakeFits queue (some o))
    (ho : o.content = .reserved e) : queue.length < 4 := by
  unfold IntakeFits Receiver.reserved at h
  simp only [ho, if_true] at h
  omega

/-- The form of the missed list: at most four identities, no two the same (R100). -/
def MissedLegal (missed : List Identity) : Prop := missed.length ≤ 4 ∧ missed.Nodup

theorem missedWf_iff (s : State) : MissedWf s ↔ MissedLegal s.rx.missed := Iff.rfl

theorem missedLegal_nil : MissedLegal [] := ⟨by simp, by simp⟩

theorem MissedLegal.filter {missed : List Identity} (h : MissedLegal missed) (p : Identity → Bool) : MissedLegal (missed.filter p) :=
  ⟨(List.length_filter_le ..).trans h.1, h.2.filter _⟩

theorem Receiver.addMissed_legal {r : Receiver} (h : MissedLegal r.missed) (id : Identity) : MissedLegal (r.addMissed id).missed := by
  unfold Receiver.addMissed
  split
  · exact h
  · rename_i hnew
    split
    · rename_i hlt
      refine ⟨by rw [List.length_append]; exact hlt, ?_⟩
      rw [List.nodup_append]
      exact ⟨h.2, by simp, fun a ha b hb hab => hnew (by rw [← List.mem_singleton.1 hb, ← hab]; exact ha)⟩
    · exact h

/-! ### The pending outcome at a completion fits the queue (R97) -/

theorem State.contentPart_reserved {s : State} {r : Record} {tag : Tag} {body : BurstBody} {e : IntakeEntry}
    (h : s.contentPart r tag body = .reserved e) : s.intake.queue.length < 4 ∧ e.tag = tag := by
  unfold State.contentPart at h
  split at h
  · split at h
    · split at h
      · cases h
        exact ⟨‹_›, rfl⟩
      · simp at h
    · simp at h
  all_goals simp at h

/-- A pending outcome with a reservation is held only while the queue has room. -/
theorem State.classify_intakeFits {s : State} (h : s.intake.queue.length ≤ 4) (r : Record) (own : Bool) :
    IntakeFits (s.classify r own).intake.queue (s.classify r own).rx.outcome := by
  have htagged (u : State) (hu : u.intake.queue.length ≤ 4) (before : StationState) (id : Identity) (tag : Tag) (body : BurstBody) :
      IntakeFits (u.classifyTagged before r id tag body).intake.queue (u.classifyTagged before r id tag body).rx.outcome := by
    obtain ⟨b, hadopt⟩ := u.adopt_blocks before tag
    unfold State.classifyTagged
    dsimp only
    rw [hadopt]
    split
    · by_cases hlt : u.intake.queue.length < 4
      · exact intakeFits_of_lt hlt _
      · exact intakeFits_of_not_reserved hu fun e he => hlt (State.contentPart_reserved he).1
    · exact intakeFits_of_not_reserved (by simpa using hu) (by simp)
  have hbody (u : State) (hu : u.intake.queue.length ≤ 4) (before : StationState) (own : Bool) (id : Identity) (tag : Tag)
      (body : BurstBody) :
      IntakeFits (u.classifyBody before r own id tag body).intake.queue (u.classifyBody before r own id tag body).rx.outcome := by
    unfold State.classifyBody
    cases body with
    | join digest =>
      unfold State.classifyJoin
      dsimp only
      split <;> exact intakeFits_of_not_reserved hu (by simp)
    | withdraw => exact intakeFits_of_not_reserved hu (by simp)
    | welcome =>
      obtain ⟨j, b, hwelcome⟩ := u.takeWelcome_blocks tag
      exact htagged _ (by rw [hwelcome]; exact hu) _ _ _ _
    | endFrame | look | content => exact htagged u hu _ _ _ _
  obtain ⟨j, l, b, p, q, hduplicate⟩ := s.findDuplicate_blocks
  unfold State.classify
  split
  · dsimp only
    split
    · refine intakeFits_none ?_
      rw [State.holdOutcome_intake]
      split
      · rw [hduplicate]
        exact h
      · exact h
    · refine hbody _ ?_ _ _ _ _ _
      split
      · rw [hduplicate]
        exact h
      · exact h
  · exact intakeFits_none h

theorem State.takeBit_intakeFits {s : State} (h : IntakeFits s.intake.queue s.rx.outcome) (bit : Bool) :
    IntakeFits (s.takeBit bit).intake.queue (s.takeBit bit).rx.outcome := by
  have houtcome : (s.rx.takeBit bit).outcome = s.rx.outcome := by rw [Receiver.takeBit_eq]
  unfold State.takeBit
  dsimp only
  split
  · rcases Option.eq_none_or_eq_some s.record with hr | ⟨r, hr⟩
    · simp only [State.complete, hr, houtcome]
      exact h
    · obtain ⟨t, x, ht, heq, -⟩ := State.complete_eq { s with link.bitOpen := false, rx := s.rx.takeBit bit } r hr
      have hfits := State.classify_intakeFits (s := { s with link.bitOpen := false, link.atSlot := true, rx := s.rx.takeBit bit })
        h.length r s.pub.transmission.isSome
      rw [heq, ht]
      exact hfits
  · rw [houtcome]
    exact h

/-! ### Where the queue, the pending outcome and the missed list change -/

/-- What the two forms rest on, of a state. -/
def State.lists (s : State) : List IntakeEntry × Option PendingOutcome × List Identity := (s.intake.queue, s.rx.outcome, s.rx.missed)

/-- What comes after `s` keeps both forms. -/
def State.KeepsLists (s t : State) : Prop :=
  (IntakeFits s.lists.1 s.lists.2.1 → IntakeFits t.lists.1 t.lists.2.1) ∧ (MissedLegal s.lists.2.2 → MissedLegal t.lists.2.2)

theorem State.KeepsLists.of_eq {s t : State} (h : t.lists = s.lists) : s.KeepsLists t := by
  unfold State.KeepsLists
  rw [h]
  exact ⟨id, id⟩

theorem State.KeepsLists.trans {s t u : State} (h : s.KeepsLists t) (h' : t.KeepsLists u) : s.KeepsLists u :=
  ⟨h'.1 ∘ h.1, h'.2 ∘ h.2⟩

@[simp] theorem State.settleBlocks_lists (s : State) : s.settleBlocks.lists = s.lists := by
  simp [State.lists, State.settleBlocks]

@[simp] theorem State.beside_lists (f g : State → State) (s : State) : (s.beside f g).lists = (f s).lists := by
  obtain ⟨x, h, -⟩ := s.beside_eq f g
  rw [h]
  rfl

@[simp] theorem State.settle_lists (s : State) : s.settle.lists = s.lists := by simp [State.settle]

@[simp] theorem State.makeMarks_lists (s : State) : s.makeMarks.lists = s.lists := by
  obtain ⟨x, y, q, h⟩ := s.makeMarks_blocks
  rw [h]
  rfl

@[simp] theorem State.report_lists (s : State) (r : Report) : (s.report r).lists = s.lists := by
  obtain ⟨j, l, b, p, q, h⟩ := s.report_blocks r
  rw [h]
  rfl

@[simp] theorem State.stopDriving_lists (s : State) (r : Report) : (s.stopDriving r).lists = s.lists := s.report_lists r

@[simp] theorem State.ensureBit_lists (s : State) : s.ensureBit.lists = s.lists := by
  obtain ⟨l, h⟩ := s.ensureBit_blocks
  rw [h]
  rfl

@[simp] theorem State.ensureSlot_lists (s : State) : s.ensureSlot.lists = s.lists := by
  obtain ⟨l, q, h⟩ := s.ensureSlot_blocks
  rw [h]
  rfl

@[simp] theorem State.openStart_lists (s : State) : s.openStart.lists = s.lists := by
  unfold State.openStart
  split
  · simp [State.lists]
  · rfl

theorem takeBit_missed (s : State) (bit : Bool) : (s.takeBit bit).rx.missed = s.rx.missed := by
  have hmissed : (s.rx.takeBit bit).missed = s.rx.missed := by rw [Receiver.takeBit_eq]
  unfold State.takeBit
  dsimp only
  split
  · obtain ⟨j, l, o, x, b, p, q, h⟩ := State.complete_blocks { s with link.bitOpen := false, rx := s.rx.takeBit bit }
    rw [h]
    exact hmissed
  · exact hmissed

theorem State.keepsLists_takeBit (s : State) (bit : Bool) : s.KeepsLists (s.takeBit bit) :=
  ⟨fun h => State.takeBit_intakeFits h bit, fun h => by
    show MissedLegal (s.takeBit bit).rx.missed
    rw [takeBit_missed]
    exact h⟩

theorem State.keepsLists_sampleStart (s : State) (l : Level) : s.KeepsLists (s.sampleStart l) := by
  unfold State.sampleStart
  split
  · cases l
    · exact ⟨fun h => intakeFits_none h.length, id⟩
    · dsimp only
      split
      · exact .of_eq (by simp; rfl)
      · exact .of_eq rfl
  · exact .of_eq rfl

/-- The pending outcome carried out: the reserved place becomes the entry it was kept for (R98, R100). -/
theorem State.keepsLists_carryOut (s : State) (delivered : Bool) : s.KeepsLists (s.carryOut delivered) := by
  rcases s.carryOut_cases delivered with ⟨-, heq⟩ | ⟨o, ho, heq⟩
  · exact .of_eq (by rw [heq])
  obtain ⟨ro, q, hroster⟩ := State.carryRoster_blocks { s with rx.outcome := none } o.identity o.roster
  have hlists : (State.carryRoster { s with rx.outcome := none } o.identity o.roster).lists = (s.intake.queue, none, s.rx.missed) := by
    rw [hroster]
    rfl
  generalize State.carryRoster { s with rx.outcome := none } o.identity o.roster = u at heq hlists
  obtain ⟨w, hwelcome⟩ := State.carryWelcome_blocks (u.carryContent o.identity o.content) o delivered
  have hcarried : (s.carryOut delivered).lists = (u.carryContent o.identity o.content).lists := by
    rw [heq, hwelcome]
    rfl
  have hsame : (s.intake.queue, none, s.rx.missed) = (s.carryOut delivered).lists → s.KeepsLists (s.carryOut delivered) := by
    intro h
    unfold State.KeepsLists
    rw [← h]
    exact ⟨fun hfits => intakeFits_none hfits.length, id⟩
  rw [← hlists, hcarried] at hsame
  rcases u.carryContent_cases o.identity o.content with ⟨-, h⟩ | ⟨e, hc, h⟩ | ⟨-, -, h⟩ | ⟨-, -, h⟩ | ⟨tag, l, -, h⟩
  · exact hsame (by rw [h])
  · unfold State.KeepsLists
    rw [hcarried, h]
    simp only [State.lists, Prod.mk.injEq] at hlists
    obtain ⟨hqueue, houtcome, hlist⟩ := hlists
    simp only [State.lists, State.accept_intake_queue, State.accept_rx_missed, hqueue, hlist,
      show (u.accept o.identity e).rx.outcome = none from houtcome]
    refine ⟨fun hfits => intakeFits_none ?_, fun hmissed => hmissed.filter _⟩
    rw [ho] at hfits
    simpa using hfits.lt_of_reserved hc
  · exact hsame (by rw [h]; rfl)
  · have haddOutcome : (u.rx.addMissed o.identity).outcome = u.rx.outcome := by
      unfold Receiver.addMissed
      split
      · rfl
      · split <;> rfl
    unfold State.KeepsLists
    rw [hcarried, h]
    simp only [State.lists, Prod.mk.injEq] at hlists
    obtain ⟨hqueue, houtcome, hlist⟩ := hlists
    simp only [State.lists, hqueue, haddOutcome, houtcome]
    refine ⟨fun hfits => intakeFits_none hfits.length, fun hmissed => Receiver.addMissed_legal ?_ _⟩
    rwa [hlist]
  · exact hsame (by rw [h]; rfl)

theorem Intake.length_kept_le (i : Intake) (opening : Option Tag) : (i.kept opening).length ≤ i.queue.length := by
  unfold Intake.kept
  split
  · rename_i hq _
    rw [hq]
    simpa using List.length_filter_le ..
  · exact List.length_filter_le ..

theorem State.swapEdge_lists (s : State) :
    s.swapEdge.lists = (s.intake.kept (nextTag s.barrier.fillTag), s.rx.outcome.map PendingOutcome.atEdge, []) := by
  obtain ⟨q, hmoves, -, -⟩ := s.edgeMoves_eq
  rcases s.swapEdge_cases with ⟨-, h⟩ | ⟨-, -, h⟩ | ⟨-, -, h⟩
  · rw [h, hmoves]
    rfl
  · obtain ⟨x, q', h'⟩ := s.edgeMoves.markDamage_blocks
    rw [h, h', hmoves]
    rfl
  · rw [h, hmoves]
    rfl

theorem State.keepsLists_riseBlocks (s : State) : s.KeepsLists s.riseBlocks := by
  rcases s.riseBlocks_cases with heq | heq | heq | heq
  · rw [heq]
    unfold State.KeepsLists
    rw [State.swapEdge_lists]
    refine ⟨fun h => ?_, fun _ => missedLegal_nil⟩
    have hlength := (s.intake.length_kept_le (nextTag s.barrier.fillTag)).trans h.length
    cases s.rx.outcome with
    | none => exact intakeFits_none hlength
    | some o =>
      refine intakeFits_of_not_reserved hlength fun e he => ?_
      unfold PendingOutcome.atEdge at he
      dsimp only at he
      split at he
      · simp at he
      · rename_i hlost
        simp [he, ContentPart.lostAtEdge] at hlost
  · obtain ⟨b, q, h'⟩ := s.electricalFault_blocks
    exact .of_eq (by rw [heq, h']; rfl)
  · exact .of_eq (by rw [heq]; rfl)
  · exact .of_eq (by rw [heq])

theorem State.keepsLists_finishCommit (s : State) : s.KeepsLists s.finishCommit :=
  ⟨fun h => h.mono (queue' := s.intake.queue.tail) (by rw [List.length_tail]; exact Nat.sub_le _ _), id⟩

/-- Every command keeps the bound of the intake queue, its reservation counted, and the form of the missed list (R96–R102). -/
theorem Effect.keepsLists {s t : State} {c : Instr} (heffect : Effect s c t) : s.KeepsLists t := by
  cases heffect with
  | nothing | port | clearCounters | firstConfirmedLevel | row | idleRestart | clearPass => exact .of_eq rfl
  | configure => exact ⟨fun h => intakeFits_none h.length, id⟩
  | hardReset => exact ⟨fun _ => intakeFits_none (queue := []) (Nat.zero_le _), fun _ => missedLegal_nil⟩
  | reset => exact ⟨fun _ => intakeFits_none (queue := []) (Nat.zero_le _), fun _ => missedLegal_nil⟩
  | start => exact .of_eq (State.settle_lists _)
  | request c body payload p q =>
    obtain ⟨p', heq⟩ := State.takeRequest_blocks { s with port := p } body payload
    exact .of_eq ((State.settle_lists _).trans (by rw [heq]; rfl))
  | flush p q =>
    obtain ⟨p', q', heq⟩ := State.flushQueue_blocks { s with port := p }
    exact .of_eq ((State.settle_lists _).trans ((State.beside_lists _ _ _).trans (by rw [heq]; rfl)))
  | busIdle => exact .of_eq (State.settle_lists _)
  | truncate =>
    unfold State.KeepsLists
    rw [State.settle_lists]
    simp only [State.lists, State.truncate_rx, State.truncate_intake]
    exact ⟨fun h => intakeFits_none h.length, id⟩
  | openStart => exact .of_eq s.openStart_lists
  | sampleStart l => exact (State.KeepsLists.of_eq s.openStart_lists).trans (State.keepsLists_sampleStart _ l)
  | lost => exact (State.KeepsLists.of_eq (by simp)).trans ((State.keepsLists_takeBit _ _).trans (.of_eq (State.settle_lists _)))
  | bitError =>
    have hstopped : ((s.ensureBit.count .bitErrors).stopDriving .bitError).lists = s.lists :=
      (State.stopDriving_lists _ _).trans s.ensureBit_lists
    exact (State.KeepsLists.of_eq hstopped).trans ((State.keepsLists_takeBit _ _).trans (.of_eq (State.settle_lists _)))
  | completion => exact (State.KeepsLists.of_eq (by simp)).trans ((State.keepsLists_takeBit _ _).trans (.of_eq (State.settle_lists _)))
  | slotResult l =>
    have hreport : (s.ensureSlot.sampleSlot l.bit).lists = (s.ensureSlot.carryOut l.bit).lists := State.report_lists _ _
    exact (State.KeepsLists.of_eq s.ensureSlot_lists).trans
      ((State.keepsLists_carryOut _ l.bit).trans (.of_eq ((State.settle_lists _).trans hreport)))
  | stripeCommit r e rest l f q slot =>
    exact (State.keepsLists_finishCommit { s with frame := s.frame.writeStripe r s.intake.palette l q slot }).trans (.of_eq (by simp))
  | fillCommit r e rest l q c transparent =>
    exact (State.keepsLists_finishCommit { s with frame := s.frame.writeFill r l q c transparent fun _ => true }).trans (.of_eq (by simp))
  | paletteCommit e rest first slot =>
    exact (State.keepsLists_finishCommit { s with intake.palette := writePalette s.intake.palette first slot }).trans (.of_eq (by simp))
  | lastRow | passEnd => exact .of_eq (by simp; rfl)
  | bitStart => exact .of_eq s.ensureBit_lists
  | slotStart => exact .of_eq s.ensureSlot_lists
  | bit => exact (State.KeepsLists.of_eq (by simp)).trans (State.keepsLists_takeBit _ _)
  | confirmedRise =>
    exact (State.keepsLists_riseBlocks { s with barrier.confirmed := some .high }).trans (.of_eq (by simp [State.takeRise]))
  | confirmedFall => exact .of_eq (State.beside_lists _ _ _)
  | faultWatchClear => exact .of_eq (State.beside_lists _ _ _)
  | redriveDelay =>
    obtain ⟨b, heq⟩ := s.endRedrive_blocks
    exact .of_eq ((State.beside_lists _ _ _).trans (by rw [heq]; rfl))
  | framePeriod =>
    obtain ⟨b, q, heq⟩ := s.reachPeriod_blocks
    exact .of_eq ((State.beside_lists _ _ _).trans (by rw [heq]; rfl))
  | holdLimit =>
    obtain ⟨b, q, heq⟩ := s.holdReached_blocks
    exact .of_eq ((State.beside_lists _ _ _).trans (by rw [heq]; rfl))
  | stallLimit =>
    obtain ⟨b, q, heq⟩ := s.reachStall_blocks
    exact .of_eq ((State.beside_lists _ _ _).trans (by rw [heq]; rfl))
  | welcomeWait =>
    obtain ⟨j, b, q, heq⟩ := s.welcomeExpired_blocks
    refine .of_eq ((State.beside_lists _ _ _).trans ?_)
    unfold State.expireBlocks
    split
    · rw [State.settleBlocks_lists, heq]
      rfl
    · rfl

theorem State.tick_lists (s : State) : s.tick.lists = s.lists := by
  have htick : s.tickFrame.lists = s.lists := by
    obtain ⟨b, q, h⟩ := s.tickFrame_blocks
    rw [h]
    rfl
  unfold State.tick
  rw [State.beside_lists]
  unfold State.tickWelcome
  split
  · split
    · exact htick
    · obtain ⟨j, b, q, h⟩ := s.tickFrame.welcomeExpired_blocks
      unfold State.expireBlocks
      split
      · rw [State.settleBlocks_lists, h]
        exact htick
      · exact htick
  · exact htick

end Sys2Proof.Machine
end

section
/-! SUPPORT. The publish queue in bounds and its payloads in one run of the staging ring, through every command. -/

namespace Sys2Proof.Machine

open Sys2Proof.Safety

/-! ### The bounds and the run, on what they rest on -/

/-- A publish queue in its bounds, whose payloads are one run that the next payload follows at `next` (R115, R116, R123). -/
structure QueueSound (queue : List Request) (next : Nat) : Prop where
  length_le : queue.length ≤ 16
  places_le : (queue.map fun q => q.body.places).sum ≤ 4096
  attempts_lt : ∀ q ∈ queue, q.attempts < 4
  oneRun : ∃ start, runsFrom start next queue

theorem queueSound_iff (p : Publisher) : QueueSound p.queue p.stagingNext ↔ PublisherBounded p ∧ OneRun p :=
  ⟨fun ⟨h₁, h₂, h₃, h₄⟩ => ⟨⟨h₁, h₂, h₃⟩, h₄⟩, fun ⟨⟨h₁, h₂, h₃⟩, h₄⟩ => ⟨h₁, h₂, h₃, h₄⟩⟩

theorem queueSound_nil (next : Nat) : QueueSound [] next := ⟨by simp, by simp, by simp, next, rfl⟩

/-- Behind a request's payload the run of the others begins. -/
theorem runsFrom_tail {start stop : Nat} {q : Request} {rest : List Request} (h : runsFrom start stop (q :: rest)) :
    runsFrom (start + q.body.places) stop rest := by
  obtain ⟨body, attempts⟩ := q
  cases body with
  | stripe | palette => exact h.2
  | fill | look | endFrame | withdraw => exact h

/-- A head request alone takes its own run. -/
theorem oneRun_head {start stop : Nat} {q : Request} {rest : List Request} (h : runsFrom start stop (q :: rest)) :
    ∃ start', runsFrom start' (q.body.runEnd stop) [q] := by
  obtain ⟨body, attempts⟩ := q
  cases body with
  | stripe _ _ rect p | palette _ count p =>
    refine ⟨start, h.1, ?_⟩
    simp only [runsFrom, RequestBody.runEnd, Config.stagingPlaces, Nat.mod_mod, Nat.add_mod p, h.1]
    rw [← Nat.add_mod]
  | fill | look | endFrame | withdraw => exact ⟨stop, rfl⟩

theorem runsFrom_append {stop : Nat} (body : RequestBody) (n : Nat) :
    ∀ {queue : List Request} {start : Nat}, runsFrom start stop queue →
      runsFrom start ((stop + body.places) % 4096) (queue ++ [{ body := body.at stop, attempts := n }])
  | [], start, h => by
    have h : start % 4096 = stop % 4096 := h
    cases body with
    | stripe | palette =>
      refine ⟨h.symm, ?_⟩
      simp only [runsFrom, RequestBody.places, Nat.mod_mod]
      rw [Nat.add_mod, h, ← Nat.add_mod]
    | fill | look | endFrame | withdraw =>
      simp only [List.nil_append, RequestBody.at, runsFrom, RequestBody.places, Nat.add_zero, Nat.mod_mod]
      exact h
  | ⟨q, attempts⟩ :: rest, start, h => by
    cases q with
    | stripe | palette => exact ⟨h.1, runsFrom_append body n h.2⟩
    | fill | look | endFrame | withdraw => exact runsFrom_append body n (queue := rest) h

theorem RequestBody.at_places (body : RequestBody) (start : Nat) : (body.at start).places = body.places := by
  cases body <;> rfl

theorem QueueSound.tail {q : Request} {rest : List Request} {next : Nat} (h : QueueSound (q :: rest) next) : QueueSound rest next := by
  obtain ⟨hlength, hplaces, hattempts, start, hrun⟩ := h
  rw [List.length_cons] at hlength
  rw [List.map_cons, List.sum_cons] at hplaces
  exact ⟨by omega, by omega, fun x hx => hattempts x (List.mem_cons_of_mem _ hx), _, runsFrom_tail hrun⟩

theorem QueueSound.head {q : Request} {rest : List Request} {next : Nat} (h : QueueSound (q :: rest) next) :
    QueueSound [q] (q.body.runEnd next) := by
  obtain ⟨hlength, hplaces, hattempts, start, hrun⟩ := h
  rw [List.map_cons, List.sum_cons] at hplaces
  exact ⟨by simp, by simpa using (Nat.le_add_right ..).trans hplaces, by simpa using hattempts q (List.mem_cons_self ..),
    oneRun_head hrun⟩

/-- The attempts of the head do not bear on the run. -/
theorem QueueSound.withAttempts {q : Request} {rest : List Request} {next : Nat} (h : QueueSound (q :: rest) next) {n : Nat}
    (hn : n < 4) : QueueSound ({ q with attempts := n } :: rest) next := by
  obtain ⟨hlength, hplaces, hattempts, hrun⟩ := h
  refine ⟨hlength, hplaces, fun x hx => ?_, hrun⟩
  rcases List.mem_cons.1 hx with rfl | hx
  · exact hn
  · exact hattempts x (List.mem_cons_of_mem _ hx)

theorem QueueSound.append {queue : List Request} {next : Nat} (h : QueueSound queue next) (body : RequestBody)
    (hlength : queue.length < 16) (hplaces : body.places ≤ 4096 - (queue.map fun q => q.body.places).sum) :
    QueueSound (queue ++ [{ body := body.at next, attempts := 0 }]) ((next + body.places) % 4096) := by
  obtain ⟨-, hsum, hattempts, start, hrun⟩ := h
  refine ⟨by simpa using hlength, ?_, fun x hx => ?_, start, runsFrom_append body 0 hrun⟩
  · rw [List.map_append, List.sum_append, List.map_singleton, List.sum_singleton, RequestBody.at_places]
    omega
  · rcases List.mem_append.1 hx with hx | hx
    · exact hattempts x hx
    · rw [List.mem_singleton.1 hx]
      show 0 < 4
      decide

/-! ### Every operation keeps a sound queue -/

/-- The state's publish queue is sound. -/
def State.PubSound (s : State) : Prop := QueueSound s.pub.queue s.pub.stagingNext

/-- A state whose queue and next place are those of a sound one is sound. -/
theorem State.PubSound.of_eq {s t : State} (h : s.PubSound) (hqueue : t.pub.queue = s.pub.queue)
    (hnext : t.pub.stagingNext = s.pub.stagingNext) : t.PubSound := by
  unfold State.PubSound
  rwa [hqueue, hnext]

theorem State.pubSound_spaceFreed {s : State} (h : s.PubSound) : s.spaceFreed.PubSound := by
  rw [State.spaceFreed_eq]
  exact h

theorem State.pubSound_removeHead {s : State} (h : s.PubSound) : s.removeHead.PubSound := by
  unfold State.removeHead
  split
  · exact h
  · rename_i hq
    unfold State.PubSound at h
    rw [hq] at h
    exact State.pubSound_spaceFreed h.tail

theorem State.pubSound_holdIf {s : State} (h : s.PubSound) (b : Bool) : (s.holdIf b).PubSound := by
  cases b <;> exact h

theorem State.pubSound_resend {s : State} (h : s.PubSound) : s.resend.PubSound := by
  unfold State.resend
  split
  · rename_i hq
    unfold State.PubSound at h
    rw [hq] at h
    exact h.withAttempts (by decide)
  · exact h

theorem State.pubSound_failedAttempt {s : State} (h : s.PubSound) {q : Request} {rest : List Request} (hq : s.pub.queue = q :: rest) :
    (s.failedAttempt q).PubSound := by
  rcases State.failedAttempt_cases hq with ⟨hlt, heq⟩ | ⟨-, heq⟩ <;> rw [heq]
  · unfold State.PubSound at h
    rw [hq] at h
    exact h.withAttempts hlt
  · exact State.pubSound_holdIf (s := (s.removeHead.count .dropped).raise .drop) (State.pubSound_removeHead h) _

theorem State.pubSound_requestReport {s : State} (h : s.PubSound) (t : Transmission) {q : Request} {rest : List Request}
    (hq : s.pub.queue = q :: rest) (r : Report) : (s.requestReport t q r).PubSound := by
  have hremoved := State.pubSound_removeHead h
  have hovertaken (b : Bool) : (if b then s.removeHead else s.resend).PubSound := by
    split
    · exact hremoved
    · exact State.pubSound_resend h
  cases r with
  | lost =>
    simp only [State.requestReport]
    split <;> assumption
  | delivered =>
    simp only [State.requestReport]
    split
    · exact hovertaken _
    · exact State.pubSound_holdIf (s := s.removeHead.count .sent) hremoved _
  | refused =>
    simp only [State.requestReport]
    split
    · exact hovertaken _
    · split
      · exact State.pubSound_holdIf (s := s.removeHead.count .refusedTx) hremoved _
      · exact State.pubSound_failedAttempt (s := s.count .refusedTx) h hq
  | bitError =>
    simp only [State.requestReport]
    split
    · exact hovertaken _
    · split
      · exact State.pubSound_holdIf hremoved _
      · exact State.pubSound_failedAttempt h hq

theorem State.pubSound_enterObserver (s : State) (reason : ObserverReason) : (s.enterObserver reason).PubSound := queueSound_nil _

theorem State.pubSound_report {s : State} (h : s.PubSound) (r : Report) : (s.report r).PubSound := by
  have hfailed (u : State) (hu : u.PubSound) : u.joinFailed.PubSound := by
    unfold State.joinFailed
    dsimp only
    split
    · exact State.pubSound_enterObserver _ _
    · exact hu
  rcases s.report_cases r with ⟨-, heq⟩ | ⟨t, -, ⟨-, heq⟩ | ⟨-, heq⟩ | ⟨-, -, heq⟩ | ⟨q, rest, -, hq, heq⟩⟩ <;> rw [heq]
  · exact h
  · cases r with
    | lost => exact h
    | delivered => exact h
    | refused => exact hfailed _ h
    | bitError => exact hfailed _ h
  · obtain ⟨q, heq'⟩ := State.welcomeReport_blocks { s with pub.transmission := none } r
    rw [heq']
    exact h
  · exact h
  · exact State.pubSound_requestReport (s := { s with pub.transmission := none }) h t hq r

theorem State.pubSound_flushQueue {s : State} (h : s.PubSound) : s.flushQueue.PubSound := by
  rcases s.flushQueue_cases with ⟨-, -, heq⟩ | ⟨-, -, heq⟩ | ⟨-, heq⟩
  · rwa [heq]
  · rw [heq]
    exact State.pubSound_spaceFreed (queueSound_nil _)
  · have hhead : QueueSound (s.pub.queue.take 1) s.pub.nextAfterHead := by
      unfold State.PubSound at h
      unfold Publisher.nextAfterHead
      cases hq : s.pub.queue with
      | nil => exact queueSound_nil _
      | cons q rest =>
        rw [hq] at h
        exact h.head
    rw [heq]
    split
    · exact State.pubSound_spaceFreed hhead
    · exact hhead

theorem State.pubSound_takeRequest {s : State} (h : s.PubSound) {body : RequestBody} {payload : List RawPixel}
    (hbody : body.places = payload.length) : (s.takeRequest body payload).1.PubSound := by
  rcases s.takeRequest_cases body payload with ⟨hlength, hplaces, heq⟩ | ⟨-, heq⟩ <;> rw [heq]
  · unfold State.PubSound Publisher.append
    rw [← hbody]
    exact QueueSound.append h body hlength hplaces
  · exact h

theorem Publisher.edge_sound {p : Publisher} (h : QueueSound p.queue p.stagingNext) : QueueSound p.edge.queue p.edge.stagingNext := by
  unfold Publisher.edge
  dsimp only
  split
  · rename_i hq
    rw [hq] at h
    exact h.withAttempts (by decide)
  · exact queueSound_nil _

theorem State.pubSound_swapEdge {s : State} (h : s.PubSound) : s.swapEdge.PubSound := by
  obtain ⟨q, hmoves, -, -⟩ := s.edgeMoves_eq
  have hedge := Publisher.edge_sound h
  rcases s.swapEdge_cases with ⟨-, heq⟩ | ⟨-, -, heq⟩ | ⟨-, -, heq⟩
  · rw [heq, hmoves]
    exact hedge
  · obtain ⟨x, q', heq'⟩ := s.edgeMoves.markDamage_blocks
    rw [heq, heq', hmoves]
    exact hedge
  · rw [heq, hmoves]
    exact hedge

@[simp] theorem State.swapEdge_undo (s : State) : s.swapEdge.rx.undo = s.rx.undo := by
  obtain ⟨q, hmoves, -, -⟩ := s.edgeMoves_eq
  rcases s.swapEdge_cases with ⟨-, heq⟩ | ⟨-, -, heq⟩ | ⟨-, -, heq⟩
  · rw [heq, hmoves]
    rfl
  · obtain ⟨x, q', heq'⟩ := s.edgeMoves.markDamage_blocks
    rw [heq, heq', hmoves]
    rfl
  · rw [heq, hmoves]
    rfl

@[simp] theorem State.riseBlocks_undo (s : State) : s.riseBlocks.rx.undo = s.rx.undo := by
  rcases s.riseBlocks_cases with heq | heq | heq | heq <;> rw [heq]
  · exact s.swapEdge_undo
  · obtain ⟨b, q, heq'⟩ := s.electricalFault_blocks
    rw [heq']

theorem State.pubSound_riseBlocks {s : State} (h : s.PubSound) : s.riseBlocks.PubSound := by
  rcases s.riseBlocks_cases with heq | heq | heq | heq <;> rw [heq]
  · exact State.pubSound_swapEdge h
  · obtain ⟨b, q, heq'⟩ := s.electricalFault_blocks
    rw [heq']
    exact h
  · exact h
  · exact h

theorem State.pubSound_classify {s : State} (h : s.PubSound) (r : Record) (own : Bool) : (s.classify r own).PubSound := by
  have hduplicate : s.findDuplicate.PubSound := by
    unfold State.findDuplicate
    cases s.join.station with
    | joining | listening | member => exact State.pubSound_enterObserver _ _
    | starting | unconfigured | configured | observer => exact h
  unfold State.classify
  split
  · dsimp only
    generalize hu : (if senderIn (byteAt s.rx.body 0) = r.station ∧ own = false then s.findDuplicate else s) = u
    have hsound : u.PubSound := by
      rw [← hu]
      split <;> assumption
    split
    · exact hsound
    · rename_i body _
      obtain ⟨j, l, o, b, q, heq⟩ := u.classifyBody_blocks s.join.station r own
        ⟨senderIn (byteAt s.rx.body 0), kindIn (byteAt s.rx.body 0), s.rx.running⟩ (tagIn (byteAt s.rx.body 1)) body
      rw [heq]
      exact hsound
  · exact h

theorem State.settleBlocks_requests (s : State) :
    s.settleBlocks.pub.queue = s.pub.queue ∧ s.settleBlocks.pub.stagingNext = s.pub.stagingNext := by
  simp [State.settleBlocks]

theorem State.pubSound_settleBlocks {s : State} (h : s.PubSound) : s.settleBlocks.PubSound :=
  h.of_eq s.settleBlocks_requests.1 s.settleBlocks_requests.2

theorem State.pubSound_expireBlocks {s : State} (h : s.PubSound) : s.expireBlocks.PubSound := by
  unfold State.expireBlocks
  split
  · obtain ⟨j, b, q, heq⟩ := s.welcomeExpired_blocks
    refine State.pubSound_settleBlocks ?_
    rw [heq]
    exact h
  · exact h

@[simp] theorem State.expireBlocks_rx (s : State) : s.expireBlocks.rx = s.rx := by
  obtain ⟨j, b, q, heq⟩ := s.welcomeExpired_blocks
  obtain ⟨l, i, b', p, f, q', heq'⟩ := s.welcomeExpired.settleBlocks_blocks
  unfold State.expireBlocks
  split
  · rw [heq', heq]
  · rfl

/-! ### The queue that a truncation would put back -/

/-- The queue that an undo record keeps, if any, is sound. -/
def LostSound (x : Option Undo) : Prop := ∀ u ∈ x, ∀ b ∈ u.blocks, ∀ q ∈ b.lost, QueueSound q.queue q.stagingNext

theorem lostSound_none : LostSound none := by simp [LostSound]

/-- The queue in force is sound, and so is the one that a truncation would put back. -/
def State.PubsSound (s : State) : Prop := s.PubSound ∧ LostSound s.rx.undo

theorem State.PubsSound.of_blocks {s t : State} (h : s.PubsSound) (hpub : t.pub = s.pub) (hundo : t.rx.undo = s.rx.undo) :
    t.PubsSound := by
  unfold State.PubsSound State.PubSound
  rwa [hpub, hundo]

theorem State.pubSound_putBack {s : State} (h : s.PubsSound) {u : Undo} (hu : s.rx.undo = some u) : (s.putBack u).PubSound := by
  cases hb : u.blocks with
  | none =>
    obtain ⟨-, -, hpub, -⟩ := State.putBack_of_no_blocks s u hb
    unfold State.PubSound
    rw [hpub]
    exact h.1
  | some b =>
    obtain ⟨-, -, hpub, -⟩ := State.putBack_of_blocks s u b hb
    unfold State.PubSound
    rw [hpub]
    cases hlost : b.lost with
    | none => exact h.1
    | some q => exact h.2 u hu b hb q hlost

theorem State.pubSound_truncate {s : State} (h : s.PubsSound) : s.truncate.PubSound := by
  have hback : (State.undoCompletion { s with rx.outcome := none }).PubSound := by
    unfold State.undoCompletion
    split
    · exact State.pubSound_putBack (s := { s with rx.outcome := none }) h ‹_›
    · exact h.1
  exact hback.of_eq rfl rfl

theorem pubsSound_iff (s : State) : s.PubsSound ↔ QueueBounded s ∧ RunsWf s := by
  constructor
  · intro h
    have hback (u : Undo) (hu : u ∈ s.rx.undo) := (queueSound_iff _).1 (State.pubSound_putBack h hu)
    obtain ⟨hbounded, hrun⟩ := (queueSound_iff s.pub).1 h.1
    exact ⟨⟨hbounded, fun u hu => (hback u hu).1⟩, hrun, fun u hu => (hback u hu).2⟩
  · rintro ⟨⟨hbounded, hbackBounded⟩, hrun, hbackRun⟩
    refine ⟨(queueSound_iff _).2 ⟨hbounded, hrun⟩, fun u hu b hb q hq => ?_⟩
    have hback := (queueSound_iff _).2 ⟨hbackBounded u hu, hbackRun u hu⟩
    obtain ⟨-, -, hpub, -⟩ := State.putBack_of_blocks s u b hb
    rwa [hpub, hq] at hback

theorem State.PubsSound.of_no_undo {t : State} (h : t.PubSound) (hundo : t.rx.undo = none) : t.PubsSound :=
  ⟨h, by rw [hundo]; exact lostSound_none⟩

theorem State.pubSound_riseBeside {p : State} (h : p.PubSound) (now : StationState) : (p.riseBeside now).PubSound := by
  unfold State.riseBeside
  split
  · exact State.pubSound_swapEdge h
  · exact State.pubSound_riseBlocks h

/-- A move that keeps a sound queue keeps it beside the queue that a truncation would put back (R28). -/
theorem State.PubsSound.beside {s : State} (h : s.PubsSound) {f g : State → State} (hf : (f s).PubSound)
    (hundo : (f s).rx.undo = s.rx.undo) (hg : ∀ p : State, p.PubSound → (g p).PubSound) : (s.beside f g).PubsSound := by
  unfold State.beside
  cases hu : s.rx.undo with
  | none => exact .of_no_undo hf (hundo.trans hu)
  | some u =>
    cases hb : u.blocks with
    | none =>
      simp only [Option.bind_some, hb, Option.map_none]
      exact ⟨hf, by rw [hundo]; exact h.2⟩
    | some b =>
      simp only [Option.bind_some, hb, Option.map_some]
      refine ⟨hf, fun u' hu' b' hb' q hq => ?_⟩
      cases hu'
      cases hb'
      have hp := hg _ (State.pubSound_putBack h hu)
      simp only [State.blocksBeside] at hq
      split at hq <;> cases hq
      exact hp

theorem State.PubsSound.settle {s : State} (h : s.PubsSound) : s.settle.PubsSound :=
  h.beside (State.pubSound_settleBlocks h.1) (by simp [State.settleBlocks]) fun _ => State.pubSound_settleBlocks

/-- A completion keeps the queue that it takes away (R28, R164). -/
theorem State.PubsSound.complete {s : State} (h : s.PubsSound) : s.complete.PubsSound := by
  unfold State.complete
  split
  · rename_i r _
    have ht : (State.classify { s with link.atSlot := true } r s.pub.transmission.isSome).PubSound :=
      State.pubSound_classify (s := { s with link.atSlot := true }) h.1 _ _
    refine ⟨ht, fun u hu b hb q hq => ?_⟩
    cases hu
    dsimp only at hb
    split at hb <;> cases hb
    simp only [State.blocksBeside] at hq
    split at hq <;> cases hq
    exact h.1
  · exact h

theorem State.PubsSound.takeBit {s : State} (h : s.PubsSound) (bit : Bool) : (s.takeBit bit).PubsSound := by
  have hundo : (s.rx.takeBit bit).undo = s.rx.undo := by rw [Receiver.takeBit_eq]
  have hlost : LostSound (s.rx.takeBit bit).undo := by rw [hundo]; exact h.2
  unfold State.takeBit
  dsimp only
  split
  · exact State.PubsSound.complete (s := { s with link.bitOpen := false, rx := s.rx.takeBit bit }) ⟨h.1, hlost⟩
  · exact ⟨h.1, hlost⟩

theorem State.PubsSound.report {s : State} (h : s.PubsSound) (r : Report) : (s.report r).PubsSound := by
  obtain ⟨j, l, b, p, q, heq⟩ := s.report_blocks r
  refine ⟨State.pubSound_report h.1 r, ?_⟩
  rw [heq]
  exact h.2

theorem State.PubsSound.ensureBit {s : State} (h : s.PubsSound) : s.ensureBit.PubsSound := by
  obtain ⟨l, heq⟩ := s.ensureBit_blocks
  rw [heq]
  exact h

theorem State.PubsSound.ensureSlot {s : State} (h : s.PubsSound) : s.ensureSlot.PubsSound := by
  obtain ⟨l, q, heq⟩ := s.ensureSlot_blocks
  rw [heq]
  exact h

theorem State.PubsSound.makeMarks {s : State} (h : s.PubsSound) : s.makeMarks.PubsSound := by
  obtain ⟨x, y, q, heq⟩ := s.makeMarks_blocks
  rw [heq]
  exact h

theorem State.PubsSound.openStart {s : State} (h : s.PubsSound) : s.openStart.PubsSound := by
  unfold State.openStart
  split
  · exact State.PubsSound.settle (s := { s with link.view := .opening, link.idleCount := 0 }) h
  · exact h

theorem State.PubsSound.sampleStart {s : State} (h : s.PubsSound) (l : Level) : (s.sampleStart l).PubsSound := by
  unfold State.sampleStart
  split
  · cases l
    · exact .of_no_undo h.1 rfl
    · dsimp only
      split
      · exact State.PubsSound.settle
          (State.PubsSound.report (s := State.count { s with link.view := .waiting, link.idleCount := 0 } .bitErrors) h .bitError)
      · exact h
  · exact h

/-- Every command keeps the publish queue in its bounds with its payloads one run (R115, R116, R123). -/
theorem Effect.pubsSound {s t : State} {c : Instr} (heffect : Effect s c t) (h : s.PubsSound) : t.PubsSound := by
  have hown {f : State → State} (hf : ∀ u : State, ∃ j b q, f u = { u with join := j, barrier := b, port := q }) :
      (s.beside f f).PubsSound := by
    obtain ⟨j, b, q, heq⟩ := hf s
    refine h.beside (by rw [heq]; exact h.1) (by rw [heq]) fun p hp => ?_
    obtain ⟨j, b, q, heq⟩ := hf p
    rw [heq]
    exact hp
  cases heffect with
  | nothing | port | clearPass | firstConfirmedLevel | row | idleRestart => exact h
  | hardReset => exact .of_no_undo (queueSound_nil _) rfl
  | reset => exact .of_no_undo (queueSound_nil _) rfl
  | configure => exact .of_no_undo h.1 rfl
  | clearCounters p =>
    refine ⟨h.1, fun u hu => ?_⟩
    obtain ⟨u', hu', rfl⟩ := Option.map_eq_some_iff.1 hu
    exact h.2 u' hu'
  | start r p q =>
    have hstarted : (State.startJoining { s with port := p } r).PubsSound := State.PubsSound.settle h
    exact hstarted
  | request c body payload p q hc htakes hbody =>
    obtain ⟨p', heq⟩ := State.takeRequest_blocks { s with port := p } body payload
    have hsound : (State.takeRequest { s with port := p } body payload).1.PubsSound := by
      refine ⟨State.pubSound_takeRequest (s := { s with port := p }) h.1 hbody, ?_⟩
      rw [heq]
      exact h.2
    exact hsound.settle
  | flush p q =>
    obtain ⟨p', q', heq⟩ := State.flushQueue_blocks { s with port := p }
    exact (State.PubsSound.beside (s := { s with port := p }) h (State.pubSound_flushQueue (s := { s with port := p }) h.1)
      (by rw [heq]) fun _ => State.pubSound_flushQueue).settle
  | busIdle => exact State.PubsSound.settle (s := { s with link.view := .idle, link.idleCount := 4 }) h
  | truncate =>
    have htruncated := State.pubSound_truncate h
    exact State.PubsSound.settle (.of_no_undo (htruncated.of_eq rfl rfl) (by simp))
  | openStart => exact h.openStart
  | sampleStart l => exact h.openStart.sampleStart l
  | lost =>
    have hstopped : (s.ensureBit.stopDriving .lost).PubsSound := State.PubsSound.report h.ensureBit .lost
    exact (hstopped.takeBit _).settle
  | bitError bit =>
    have hstopped : ((s.ensureBit.count .bitErrors).stopDriving .bitError).PubsSound :=
      State.PubsSound.report (s := s.ensureBit.count .bitErrors) h.ensureBit .bitError
    exact (hstopped.takeBit _).settle
  | completion => exact (h.ensureBit.takeBit _).settle
  | slotResult l =>
    obtain ⟨out, m, o, ro, i, d, w, x, q, heq⟩ := s.ensureSlot.carryOut_blocks l.bit
    have hcarried : (s.ensureSlot.carryOut l.bit).PubsSound := by
      rw [heq]
      exact h.ensureSlot
    exact State.PubsSound.settle (.of_no_undo (State.pubSound_report hcarried.1 _) rfl)
  | stripeCommit | fillCommit | paletteCommit | lastRow | passEnd =>
    exact State.PubsSound.makeMarks (State.PubsSound.settle (.of_blocks h rfl rfl))
  | confirmedRise =>
    refine State.PubsSound.settle (State.PubsSound.beside (s := { s with barrier.confirmed := some .high }) h
      (State.pubSound_riseBlocks (s := { s with barrier.confirmed := some .high }) h.1) (by simp)
      fun _ hp => State.pubSound_riseBeside hp _)
  | confirmedFall => exact hown fun u => ⟨_, _, u.port, rfl⟩
  | faultWatchClear => exact hown fun u => ⟨u.join, _, u.port, rfl⟩
  | redriveDelay =>
    refine hown fun u => ?_
    obtain ⟨b, heq⟩ := u.endRedrive_blocks
    exact ⟨_, b, _, heq⟩
  | framePeriod =>
    refine hown fun u => ?_
    obtain ⟨b, q, heq⟩ := u.reachPeriod_blocks
    exact ⟨_, b, q, heq⟩
  | holdLimit =>
    refine hown fun u => ?_
    obtain ⟨b, q, heq⟩ := u.holdReached_blocks
    exact ⟨_, b, q, heq⟩
  | stallLimit =>
    refine hown fun u => ?_
    obtain ⟨b, q, heq⟩ := u.reachStall_blocks
    exact ⟨_, b, q, heq⟩
  | welcomeWait =>
    exact h.beside (State.pubSound_expireBlocks h.1) (by simp) fun _ => State.pubSound_expireBlocks
  | bitStart => exact h.ensureBit
  | slotStart => exact h.ensureSlot
  | bit => exact h.ensureBit.takeBit _

theorem State.PubsSound.tick {s : State} (h : s.PubsSound) : s.tick.PubsSound := by
  have htick (u : State) (hu : u.PubSound) : u.tickFrame.tickWelcome.PubSound := by
    obtain ⟨b, q, heq⟩ := u.tickFrame_blocks
    have hframe : u.tickFrame.PubSound := by
      rw [heq]
      exact hu
    unfold State.tickWelcome
    split
    · split
      · exact hframe
      · exact State.pubSound_expireBlocks hframe
    · exact hframe
  obtain ⟨j, b, q, l, i, p, f, heq⟩ := s.tick_blocks
  exact h.beside (htick s h.1) (by rw [heq]) htick

end Sys2Proof.Machine
end

section
/-! The statement on the lists' bounds. -/

namespace Sys2Proof.Proofs

open Sys2Proof.Machine Sys2Proof.Safety

/-- Settles O56: each command keeps each form, by what its operations do to the roster, the two intake lists and the publish queue. -/
theorem stepKeepsTheListsInBounds : Obligations.StepKeepsTheListsInBounds := by
  refine ⟨fun s t h hstep => ?_, fun s t h hstep => ?_, fun s t h hstep => ?_, fun s t hbounded hruns hstep => ?_⟩
  · rw [rosterWf_iff] at h ⊢
    rcases step_cases hstep with ⟨c, rest, -, hexec⟩ | ⟨-, rfl⟩
    · exact (effect_of_exec hexec).rosterLegal h
    · rwa [State.tick_roster]
  · rcases step_cases hstep with ⟨c, rest, -, hexec⟩ | ⟨-, rfl⟩
    · exact (effect_of_exec hexec).keepsLists.1 h
    · exact (State.KeepsLists.of_eq s.tick_lists).1 h
  · rcases step_cases hstep with ⟨c, rest, -, hexec⟩ | ⟨-, rfl⟩
    · exact (effect_of_exec hexec).keepsLists.2 h
    · exact (State.KeepsLists.of_eq s.tick_lists).2 h
  · have h := (pubsSound_iff s).2 ⟨hbounded, hruns⟩
    rw [← pubsSound_iff]
    rcases step_cases hstep with ⟨c, rest, -, hexec⟩ | ⟨-, rfl⟩
    · exact (effect_of_exec hexec).pubsSound h
    · exact h.tick

end Sys2Proof.Proofs
end

section
/-! SUPPORT. The response records byte by byte, and the local port's commands whole, short and out of their phase. -/

namespace Sys2Proof.Machine

open Sys2Proof.Safety

/-! ### The records that the reads answer -/

theorem bytes16_eq_highLow (v : BitVec 16) : bytes16 v = highLow v.toNat := by
  unfold bytes16 highLow
  congr 1
  · refine BitVec.eq_of_toNat_eq ?_
    simp only [BitVec.extractLsb'_toNat, BitVec.toNat_ofNat, Nat.shiftRight_eq_div_pow]

theorem natBytes16_eq_highLow (n : Nat) : natBytes16 n = highLow n := by
  unfold natBytes16
  rw [bytes16_eq_highLow]
  unfold highLow
  congr 1
  · refine BitVec.eq_of_toNat_eq ?_
    simp only [BitVec.toNat_ofNat]
    omega
  · congr 1
    refine BitVec.eq_of_toNat_eq ?_
    simp only [BitVec.toNat_ofNat]
    omega

/-- The 14 counters are read high byte first (R183). -/
theorem Counters.bytes_eq (c : Counters) : c.bytes = c.toList.flatMap fun v => highLow v.toNat := by
  unfold Counters.bytes
  congr 1
  exact funext bytes16_eq_highLow

theorem tagCode_some (tag : Tag) : tagCode (some tag) = BitVec.ofNat 8 tag.toNat := (BitVec.ofNat_toNat ..).symm

theorem Cadence.flags_eq (c : Cadence) :
    c.flags = BitVec.ofNat 8 ((if c.forced then 1 else 0) + (if c.damaged then 2 else 0) + (if c.skipped then 4 else 0)) := by
  unfold Cadence.flags
  cases c.forced <;> cases c.damaged <;> cases c.skipped <;> rfl

/-- A legal entry's two counts share a byte (R91). -/
theorem nibbles_eq {a b : Nat} (ha : a < 16) (hb : b < 16) : BitVec.ofNat 4 a ++ BitVec.ofNat 4 b = BitVec.ofNat 8 (16 * a + b) := by
  refine BitVec.eq_of_toNat_eq ?_
  rw [BitVec.toNat_append, BitVec.toNat_ofNat, BitVec.toNat_ofNat, BitVec.toNat_ofNat, Nat.mod_eq_of_lt (show a < 2 ^ 4 from ha),
    Nat.mod_eq_of_lt (show b < 2 ^ 4 from hb), ← Nat.shiftLeft_add_eq_or_of_lt (show b < 2 ^ 4 from hb), Nat.shiftLeft_eq]
  omega

theorem EntryLegal.counts_lt {e : RosterEntry} (h : EntryLegal e) : e.overdue < 16 ∧ e.silence < 16 := by
  obtain ⟨hended, hlow, hlaggard, hother⟩ := h
  cases hstate : e.state with
  | ended => have := hended hstate; have := hother (by simp [hstate]); omega
  | idle => have := hlow (.inl hstate); have := hother (by simp [hstate]); omega
  | active => have := hlow (.inr hstate); have := hother (by simp [hstate]); omega
  | laggard => have := hlaggard hstate; omega

theorem RosterEntry.bytes_eq {e : RosterEntry} (h : EntryLegal e) :
    e.bytes =
      [BitVec.ofNat 8 e.station.toNat,
       BitVec.ofNat 8 ((if e.heard then 128 else 0) + match e.state with
         | .idle => 0 | .active => 1 | .ended => 2 | .laggard => 3),
       BitVec.ofNat 8 (16 * e.overdue + e.silence)] := by
  obtain ⟨hoverdue, hsilence⟩ := EntryLegal.counts_lt h
  unfold RosterEntry.bytes
  rw [nibbles_eq hoverdue hsilence, BitVec.ofNat_toNat]
  cases e.heard <;> cases e.state <;> rfl

/-- The status record byte by byte, its two-byte fields high byte first (R169, R182). -/
theorem State.statusRecord_eq (s : State) :
    s.statusRecord =
      [s.join.station.code, reasonCode s.join.reason, phaseCode s.barrier.phase,
       (match s.barrier.fillTag with
         | none => 255 | some tag => BitVec.ofNat 8 tag.toNat),
       s.engine.code, BitVec.ofNat 8 s.pub.queue.length] ++ highLow s.pub.stagingFree ++
      [BitVec.ofNat 8 s.intake.queue.length, BitVec.ofNat 8 s.roster.length, BitVec.ofNat 8 s.rx.missed.length,
       BitVec.ofNat 8 ((if s.barrier.cadence.forced then 1 else 0) + (if s.barrier.cadence.damaged then 2 else 0) +
         (if s.barrier.cadence.skipped then 4 else 0))] ++
      highLow s.barrier.cadence.interval ++ highLow s.barrier.cadence.ownRelease := by
  unfold State.statusRecord
  simp only [natBytes16_eq_highLow, Cadence.flags_eq]
  cases s.barrier.fillTag with
  | none => rfl
  | some tag => rw [tagCode_some]

/-- The roster record: the count, and three bytes for each entry in list order (R91). -/
theorem State.rosterRecord_eq {s : State} (h : ∀ e ∈ s.roster, EntryLegal e) :
    s.rosterRecord = BitVec.ofNat 8 s.roster.length :: s.roster.flatMap fun e =>
      [BitVec.ofNat 8 e.station.toNat,
       BitVec.ofNat 8 ((if e.heard then 128 else 0) + match e.state with
         | .idle => 0 | .active => 1 | .ended => 2 | .laggard => 3),
       BitVec.ofNat 8 (16 * e.overdue + e.silence)] := by
  unfold State.rosterRecord
  congr 1
  exact List.flatMap_congr fun e he => RosterEntry.bytes_eq (h e he)

/-! ### A command without parameters, taken in every station state -/

/-- A command of one byte that every station state lists acts on the station with the command taken (R170, R172). -/
theorem State.receive_alone {s : State} (h : s.port.phase = .command) (code : Byte)
    (act : List Byte → State → State × Result × List Byte) :
    s.receive code [] (fun _ => 0) inAll act =
      let a := act [] (taken s [code] s.port.response)
      { a.1 with port.response := a.2.1.byte :: (if a.2.1 = .ok then a.2.2 else []) } :=
  State.receive_of_listed h (Nat.le_refl 0) rfl

/-- A whole command in a station state that lists it acts on the station with the command taken (R171, R172). -/
theorem State.receive_whole {s : State} (h : s.port.phase = .command) (code : Byte) {params : List Byte} (need : List Byte → Nat)
    {listed : StationState → Bool} (hneed : params.length = need params) (hlisted : listed s.join.station = true)
    (act : List Byte → State → State × Result × List Byte) :
    s.receive code params need listed act =
      let a := act params (taken s (code :: params) s.port.response)
      { a.1 with port.response := a.2.1.byte :: (if a.2.1 = .ok then a.2.2 else []) } := by
  rw [State.receive_of_listed h hneed.ge hlisted]
  unfold State.taking
  rw [← hneed, List.take_length]
  rfl

/-- A whole command in a station state that does not list it is answered STATE, with nothing else changed (R172). -/
theorem State.receive_state {s : State} (h : s.port.phase = .command) (code : Byte) {params : List Byte} {need : List Byte → Nat}
    {listed : StationState → Bool} (hneed : params.length = need params) (hlisted : listed s.join.station = false)
    (act : List Byte → State → State × Result × List Byte) :
    s.receive code params need listed act = taken s (code :: params) [0x03] := by
  rw [State.receive_of_unlisted h hneed.ge hlisted]
  unfold State.taking
  rw [← hneed, List.take_length]
  rfl

theorem inContent_eq_false {st : StationState} (h : ¬ TakesContent st) : inContent st = false := by
  cases st <;> simp_all [inContent]

theorem inConfigure_eq_false {st : StationState} (h : st ≠ .unconfigured) (h' : st ≠ .configured) : inConfigure st = false := by
  cases st <;> simp_all [inConfigure]

theorem inStart_eq_false {st : StationState} (h : st ≠ .configured) : inStart st = false := by
  cases st <;> simp_all [inStart]

/-! ### How many parameter bytes PUT STRIPE and PUT PALETTE have (R171) -/

theorem layerOf_of_le {n : Nat} (h : n ≤ 1) : layerOf n = some (if n = 1 then .overlay else .base) := by
  interval_cases n <;> rfl

theorem layerOf_of_gt {n : Nat} (h : ¬ n ≤ 1) : layerOf n = none := by
  rcases n with _ | _ | n <;> simp_all [layerOf]

/-- The format of a code of the table (R10, R169). -/
def formatAt (n : Nat) : Format := if n = 0 then .idx8 else if n = 1 then .rgb565 else .rgb666

theorem formatOf_of_le {n : Nat} (h : n ≤ 2) : formatOf n = some (formatAt n) := by
  interval_cases n <;> rfl

theorem formatOf_of_gt {n : Nat} (h : ¬ n ≤ 2) : formatOf n = none := by
  rcases n with _ | _ | _ | n <;> simp_all [formatOf]

theorem formatAt_bytesPerPixel {n : Nat} (h : n ≤ 2) : (formatAt n).bytesPerPixel = n + 1 := by
  interval_cases n <;> rfl

/-- The checks of a PUT STRIPE's shape, on its first nine bytes (R171). -/
def StripeShapePasses (ps : List Byte) : Prop :=
  natAt ps 0 ≤ 1 ∧ natAt ps 1 ≤ 2 ∧ 1 ≤ wordAt ps 6 ∧ wordAt ps 6 ≤ 512 ∧ 1 ≤ natAt ps 8 ∧ natAt ps 8 ≤ 16 ∧
    wordAt ps 6 * natAt ps 8 ≤ 512

theorem stripeShape_of_passes {ps : List Byte} (h : StripeShapePasses ps) :
    stripeShape ps = some (if natAt ps 0 = 1 then .overlay else .base, formatAt (natAt ps 1), wordAt ps 6, natAt ps 8) := by
  obtain ⟨hlayer, hformat, hsize⟩ := h
  simp only [stripeShape, layerOf_of_le hlayer, formatOf_of_le hformat, if_pos hsize]

theorem stripeShape_of_fails {ps : List Byte} (h : ¬ StripeShapePasses ps) : stripeShape ps = none := by
  unfold stripeShape
  by_cases hlayer : natAt ps 0 ≤ 1
  · by_cases hformat : natAt ps 1 ≤ 2
    · have hsize : ¬ (1 ≤ wordAt ps 6 ∧ wordAt ps 6 ≤ 512 ∧ 1 ≤ natAt ps 8 ∧ natAt ps 8 ≤ 16 ∧ wordAt ps 6 * natAt ps 8 ≤ 512) :=
        fun hsize => h ⟨hlayer, hformat, hsize⟩
      simp only [layerOf_of_le hlayer, formatOf_of_le hformat, if_neg hsize]
    · simp only [layerOf_of_le hlayer, formatOf_of_gt hformat]
  · simp only [layerOf_of_gt hlayer]

/-- Fewer bytes than a command has leave it untaken (R171). -/
theorem State.receive_short {s : State} (h : s.port.phase = .command) (code : Byte) {params : List Byte} {need : List Byte → Nat}
    {listed : StationState → Bool} (hneed : params.length < need params)
    (act : List Byte → State → State × Result × List Byte) :
    s.receive code params need listed act =
      { s with port := { s.port with phase := .parameters, command := code :: params } } := State.receive_of_short h hneed

/-- Outside the COMMAND phase no port command does anything (R170). -/
theorem exec_of_phase {c : Instr} {s : State} (hport : c.portBytes ≠ []) (hphase : s.port.phase ≠ .command) : exec c s = .next s := by
  have hreceive {code params need listed act} : s.receive code params need listed act = s := State.receive_of_phase hphase
  cases c with
  | readStatus | readRoster | readCounters | clearCounters | takeEvents | setEventMask | configure | start | reset | readConfig
  | putStripe | putFill | putPalette | putLook | endFrame | withdraw | flushQueue => exact congrArg Host.Outcome.next hreceive
  | unknownCommand code =>
    simp only [exec, execUnknownCommand, hreceive, ite_self]
  | _ => exact absurd rfl hport

/-- A command byte picks the command that it begins (R169). -/
theorem portCommand_portBytes {c : Instr} {code : Byte} {ps : List Byte} (hwf : c.wellFormed = true) (hbytes : c.portBytes = code :: ps) :
    portCommand code ps = c := by
  cases c with
  | readStatus | readRoster | readCounters | clearCounters | takeEvents | setEventMask | configure | start | reset | readConfig
  | putStripe | putFill | putPalette | putLook | endFrame | withdraw | flushQueue =>
    obtain ⟨rfl, rfl⟩ := List.cons.inj hbytes
    rfl
  | unknownCommand code' =>
    obtain ⟨rfl, rfl⟩ := List.cons.inj hbytes
    revert hwf
    clear hbytes
    revert code'
    decide
  | _ => cases hbytes

/-! ### Counting and raising -/

theorem saturate_eq (v : BitVec 16) : saturate v = if v = 65535 then 65535 else v + 1 := by
  unfold saturate
  split <;> simp_all

theorem Counters.get_bump_self (c : Counters) (k : Counter) : (c.bump k).get k = saturate (c.get k) := by cases k <;> rfl

theorem Counters.get_bump_of_ne (c : Counters) {j k : Counter} (h : j ≠ k) : (c.bump k).get j = c.get j := by
  cases k <;> cases j <;> first | rfl | exact absurd rfl h

end Sys2Proof.Machine
end

section
/-! The statements on the step, the hard reset and the local port's own commands. -/

namespace Sys2Proof.Proofs

open Sys2Proof.Machine Sys2Proof.Safety

/-- Settles O1: the step takes the front command off the queue, by its definition. -/
theorem stepRunsFrontCommand : Obligations.StepRunsFrontCommand := fun _ _ _ => rfl

/-- Settles O4: the reset state, block by block, with the pin and the banks that the reset keeps. -/
theorem hardResetResetsEveryBlock : Obligations.HardResetResetsEveryBlock := fun _ => rfl

/-- Settles O5: the port phase by the level of the pin, and four banks whose unlisted positions read black or clear. -/
theorem startUpReachesUnconfigured : Obligations.StartUpReachesUnconfigured := by
  refine ⟨fun s hheld hpsel => ?_, fun s hheld hpsel => ?_, fun s hfree hstation => ?_⟩
  · simp only [exec, execHardResetEnd, hheld, hpsel, if_true]
  · simp only [exec, execHardResetEnd, hheld, hpsel, if_true]
  · have hpass : exec .startUpClearPass s = .next
        { s with join.station := .unconfigured
                 frame := { s.frame with baseA := [], baseB := [], overlayA := [], overlayB := [] } } :=
      if_pos ⟨hstation, hfree⟩
    refine ⟨_, hpass, fun a bank => ?_, fun a bank => ?_, hpass⟩ <;> cases bank <;> rfl

/-- Settles O7: the edges of PSEL# by the phase they meet, and PDO by the level and the phase. -/
theorem pselEdgesBeginAndEndTransactions : Obligations.PselEdgesBeginAndEndTransactions := by
  intro s
  refine ⟨fun shifted => ⟨?_, ?_, ?_⟩, ?_, ?_, fun bits => ⟨?_, fun hfree => ⟨?_, ?_, ?_⟩⟩⟩
  · rintro (hheld | hpsel)
    · simp [State.pdo, hheld]
    · simp [State.pdo, hpsel]
  · intro hfree hpsel hphase
    cases h : s.port.phase <;> simp_all [State.pdo]
  · intro hfree hpsel hphase
    simp only [State.pdo, hfree, hpsel, hphase, sentBit, byteAt, List.getD_eq_getElem?_getD]
    cases s.port.response[shifted / 8]? <;> simp
  · intro hfree hphase
    exact if_pos ⟨hfree, hphase⟩
  · intro h
    refine if_neg ?_
    rintro ⟨hfree, hphase⟩
    rcases h with hheld | hother
    · simp [hfree] at hheld
    · exact hother hphase
  · intro hheld
    exact if_pos hheld
  · rintro (hphase | hphase) <;> simp [exec, execPselRise, hfree, hphase]
  · rintro (hphase | ⟨hphase, rfl⟩) <;> simp [exec, execPselRise, hfree, hphase, State.countIf]
  · rintro (hphase | ⟨hphase, hbits⟩)
    · simp [exec, execPselRise, hfree, hphase, State.count, Counters.bump]
    · simp [exec, execPselRise, hfree, hphase, State.countIf, hbits, State.count, Counters.bump]

/-- Settles O8: the code picks the command; out of the COMMAND phase or short it is not taken; and the checks that the first bytes of a
PUT STRIPE or PUT PALETTE pass fix how many it has. -/
theorem portCommandsNeedAWholeTransaction : Obligations.PortCommandsNeedAWholeTransaction := by
  refine ⟨⟨fun c code ps => portCommand_portBytes, fun c s => exec_of_phase, fun ps s hphase => ?_⟩, ?_, ?_, ?_, ?_⟩
  · have hshort (code : Byte) (need : List Byte → Nat) {listed act} (hneed : ps.length < need ps) :=
      congrArg (Host.Outcome.next (φ := Fault) (ρ := Refusal)) (State.receive_short (listed := listed) hphase code hneed act)
    exact ⟨hshort 0x06 fun _ => 2, hshort 0x10 fun _ => 20, hshort 0x20 stripeParams, hshort 0x21 fun _ => 13,
      hshort 0x22 paletteParams, hshort 0x23 fun _ => 3⟩
  · intro ps h
    exact if_pos h
  · intro ps h
    constructor
    · intro h0 h1 h2 h3 h4 h5 h6
      simp only [stripeParams, if_neg (Nat.not_lt.2 h), stripeShape_of_passes ⟨h0, h1, h2, h3, h4, h5, h6⟩, formatAt_bytesPerPixel h1]
    · intro hnot
      simp only [stripeParams, if_neg (Nat.not_lt.2 h), stripeShape_of_fails hnot]
  · intro ps h
    exact if_pos h
  · intro ps h
    have hshape : paletteShape ps = true ↔ 1 ≤ natAt ps 1 ∧ natAt ps 1 ≤ 16 ∧ natAt ps 0 + natAt ps 1 ≤ 256 := by
      simp [paletteShape, and_assoc]
    simp only [paletteParams, if_neg (Nat.not_lt.2 h), hshape]
    exact ⟨fun h0 h1 h2 => if_pos ⟨h0, h1, h2⟩, fun hnot => if_neg hnot⟩

/-- Settles O9: a whole command in a state that does not list it, and a code outside the table. -/
theorem unlistedCommandsAnswerStateOrUnknown : Obligations.UnlistedCommandsAnswerStateOrUnknown := by
  intro s hphase
  have hstate {code : Byte} {params : List Byte} {need : List Byte → Nat} {listed : StationState → Bool} {act}
      (hneed : params.length = need params) (hlisted : listed s.join.station = false) :=
    congrArg (Host.Outcome.next (φ := Fault) (ρ := Refusal)) (State.receive_state hphase code hneed hlisted act)
  refine ⟨fun h h' ps hps => hstate hps (inConfigure_eq_false h h'), fun h => hstate rfl (inStart_eq_false h), fun h => ?_,
    fun h => ?_, fun code hcode => ?_⟩
  · refine hstate rfl ?_
    rcases h with h | h <;> rw [h] <;> rfl
  · have hlisted := inContent_eq_false h
    exact ⟨fun ps hps => hstate hps hlisted, fun ps hps => hstate hps hlisted, fun ps hps => hstate hps hlisted,
      fun ps hps => hstate hps hlisted, hstate rfl hlisted, hstate rfl hlisted⟩
  · have hunlisted : code ∉ commandCodes := hcode
    simp only [exec, execUnknownCommand, if_neg hunlisted, State.receive_alone hphase]
    rfl

/-- Settles O10: each read answers its record and changes nothing else. -/
theorem readsReturnTheRecords : Obligations.ReadsReturnTheRecords := by
  have hread {s : State} (hphase : s.port.phase = .command) (code : Byte) (record : State → List Byte) :
      s.receive code [] (fun _ => 0) inAll (fun _ t => (t, .ok, record t)) =
        taken s [code] (0x00 :: record (taken s [code] s.port.response)) := State.receive_alone hphase ..
  refine ⟨fun s hphase => ?_, fun s hphase => ⟨fun hlegal => ?_, ?_⟩⟩
  · refine congrArg Host.Outcome.next ((hread hphase 0x01 State.statusRecord).trans (congrArg (taken s [0x01]) ?_))
    rw [State.statusRecord_eq]
    rfl
  · refine congrArg Host.Outcome.next ((hread hphase 0x02 State.rosterRecord).trans (congrArg (taken s [0x02]) ?_))
    rw [State.rosterRecord_eq (s := taken s [0x02] s.port.response) hlegal]
    rfl
  · refine congrArg Host.Outcome.next ((hread hphase 0x03 fun t => t.port.counters.bytes).trans (congrArg (taken s [0x03]) ?_))
    rw [Counters.bytes_eq]
    rfl

/-- Settles O11: the commands on the counters and the event flags, and what a count and an event change. -/
theorem countersAndEvents : Obligations.CountersAndEvents := by
  refine ⟨fun s hphase => ⟨?_, ?_⟩, fun s k => ⟨?_, fun j hj => ?_, rfl⟩, fun s e n hn => ⟨?_, rfl⟩, ?_⟩
  · exact congrArg Host.Outcome.next (State.receive_alone hphase ..)
  · refine congrArg Host.Outcome.next ((State.receive_alone hphase ..).trans ?_)
    rw [bytes16_eq_highLow, BitVec.toNat_setWidth_of_le (by decide)]
    rfl
  · exact (Counters.get_bump_self ..).trans (saturate_eq _)
  · exact Counters.get_bump_of_ne _ hj
  · exact BitVec.getLsbD_or
  · decide

/-- Settles O12: the word of the two bytes is below 2048 exactly while the high byte is below 8, and PATN# is low while the pending
flags and the mask share a bit. -/
theorem eventMaskGovernsPatn : Obligations.EventMaskGovernsPatn := by
  refine ⟨fun a b s hphase => ⟨fun ha => ?_, fun ha => ?_⟩, fun s => ?_⟩
  · have hword : wordAt [a, b] 0 < 2048 := by
      have := b.isLt
      show 256 * a.toNat + b.toNat < 2048
      omega
    refine congrArg Host.Outcome.next ((State.receive_whole hphase 0x06 (fun _ => 2) rfl rfl _).trans ?_)
    simp only [if_pos hword]
    rfl
  · have hword : ¬ wordAt [a, b] 0 < 2048 := by
      show ¬ 256 * a.toNat + b.toNat < 2048
      omega
    refine congrArg Host.Outcome.next ((State.receive_whole hphase 0x06 (fun _ => 2) rfl rfl _).trans ?_)
    simp only [if_neg hword]
    rfl
  · unfold State.patnLow
    rw [bne_iff_ne, Ne, ← not_iff_not, not_not]
    push Not
    constructor
    · intro h n _ hevent
      have hbit : (s.port.events &&& s.port.mask).getLsbD n = false := by rw [h]; simp
      rw [BitVec.getLsbD_and, hevent, Bool.true_and] at hbit
      simp [hbit]
    · intro h
      refine BitVec.eq_of_getLsbD_eq fun n hn => ?_
      rw [BitVec.getLsbD_and, show (0 : BitVec 11).getLsbD n = false from BitVec.getLsbD_zero]
      cases hevent : s.port.events.getLsbD n
      · rfl
      · simpa using h n hn hevent

end Sys2Proof.Proofs
end

section
/-! SUPPORT. The 20 bytes of the configuration record, and the record they carry. -/

namespace Sys2Proof.Machine

open Sys2Proof.Safety

/-! ### The codes -/

/-- An orientation is read from its own code (R169). -/
theorem orientationOf_eq_some {n : Nat} {o : Orientation} : orientationOf n = some o ↔ n = o.code.toNat := by
  refine ⟨fun h => ?_, fun h => by cases o <;> cases h <;> rfl⟩
  unfold orientationOf at h
  split at h <;> cases h <;> rfl

theorem bitRateOf_eq_some {n : Nat} {b : BitRate} : bitRateOf n = some b ↔ n = b.code.toNat := by
  refine ⟨fun h => ?_, fun h => by cases b <;> cases h <;> rfl⟩
  unfold bitRateOf at h
  split at h <;> cases h <;> rfl

theorem carryModeOf_eq_some {n : Nat} {m : CarryMode} : carryModeOf n = some m ↔ n = m.code.toNat := by
  refine ⟨fun h => ?_, fun h => by cases m <;> cases h <;> rfl⟩
  unfold carryModeOf at h
  split at h <;> cases h <;> rfl

theorem orientationOf_isSome (n : Nat) : (orientationOf n).isSome ↔ n ≤ 7 := by
  refine ⟨fun h => ?_, fun h => by interval_cases n <;> rfl⟩
  obtain ⟨x, hx⟩ := Option.isSome_iff_exists.1 h
  rw [orientationOf_eq_some.1 hx]
  cases x <;> decide

theorem bitRateOf_isSome (n : Nat) : (bitRateOf n).isSome ↔ n ≤ 2 := by
  refine ⟨fun h => ?_, fun h => by interval_cases n <;> rfl⟩
  obtain ⟨x, hx⟩ := Option.isSome_iff_exists.1 h
  rw [bitRateOf_eq_some.1 hx]
  cases x <;> decide

theorem carryModeOf_isSome (n : Nat) : (carryModeOf n).isSome ↔ n ≤ 2 := by
  refine ⟨fun h => ?_, fun h => by interval_cases n <;> rfl⟩
  obtain ⟨x, hx⟩ := Option.isSome_iff_exists.1 h
  rw [carryModeOf_eq_some.1 hx]
  cases x <;> decide

/-- The panel stands turned exactly with the codes from 4 on (R4, R169). -/
theorem turned_of_orientationOf {n : Nat} {o : Orientation} (h : orientationOf n = some o) : o.turned = true ↔ 4 ≤ n := by
  rw [orientationOf_eq_some] at h
  cases o <;> cases h <;> simp [Orientation.turned, Orientation.code]

/-! ### The record in 20 bytes -/

/-- The record that 20 bytes carry, its four codes read (R169). -/
def recordAt (bs : List Byte) (orientation : Orientation) (bitRate : BitRate) (baseMode overlayMode : CarryMode) : Record :=
  { station := (byteAt bs 0).setWidth 5, orientation := orientation, canvasWidth := wordAt bs 2, canvasHeight := wordAt bs 4,
    originX := wordAt bs 6, originY := wordAt bs 8, columns := natAt bs 10, rows := natAt bs 11, lineTime := wordAt bs 12,
    framePeriod := wordAt bs 14, holdMultiple := natAt bs 16, bitRate := bitRate, baseMode := baseMode, overlayMode := overlayMode }

/-- A record is read from the bytes when its codes are, the station number fits and the record is valid (R169, R173). -/
theorem recordOf_eq_some {bs : List Byte} {r : Record} :
    recordOf bs = some r ↔
      natAt bs 0 ≤ 31 ∧ r.valid = true ∧ orientationOf (natAt bs 1) = some r.orientation ∧ bitRateOf (natAt bs 17) = some r.bitRate ∧
      carryModeOf (natAt bs 18) = some r.baseMode ∧ carryModeOf (natAt bs 19) = some r.overlayMode ∧
      r = recordAt bs r.orientation r.bitRate r.baseMode r.overlayMode := by
  unfold recordOf
  constructor
  · intro h
    split at h
    · rename_i ho hb hm hm'
      dsimp only at h
      split at h
      · rename_i hvalid
        cases h
        exact ⟨hvalid.1, hvalid.2, ho, hb, hm, hm', rfl⟩
      · cases h
    · cases h
  · rintro ⟨hstation, hvalid, ho, hb, hm, hm', heq⟩
    simp only [ho, hb, hm, hm']
    unfold recordAt at heq
    rw [← heq, if_pos ⟨hstation, hvalid⟩]

theorem valid_iff (r : Record) :
    r.valid = true ↔ 16 ≤ r.canvasWidth ∧ r.canvasWidth ≤ 4096 ∧ 16 ≤ r.canvasHeight ∧ r.canvasHeight ≤ 4096 ∧
      r.originX ≤ 4095 ∧ r.originY ≤ 4095 ∧ 16 ≤ r.columns ∧ r.columns ≤ 128 ∧ 16 ≤ r.rows ∧ r.rows ≤ 96 ∧
      20 ≤ r.lineTime ∧ r.lineTime ≤ 500 ∧ 80 ≤ r.framePeriod ∧ r.framePeriod ≤ 1000 ∧ 2 ≤ r.holdMultiple ∧ r.holdMultiple ≤ 8 ∧
      r.originX + r.viewWidth ≤ r.canvasWidth ∧ r.originY + r.viewHeight ≤ r.canvasHeight ∧
      r.rows * r.lineTime ≤ r.framePeriod * 100 := by
  simp only [Record.valid, Bool.and_eq_true, decide_eq_true_eq, and_assoc]

/-! ### The bytes of a record -/

theorem highLow_wordAt (bs : List Byte) (i : Nat) : highLow (wordAt bs i) = [byteAt bs i, byteAt bs (i + 1)] := by
  have hlow := (byteAt bs (i + 1)).isLt
  unfold highLow wordAt natAt
  congr 1
  · refine BitVec.eq_of_toNat_eq ?_
    rw [BitVec.toNat_ofNat]
    have := (byteAt bs i).isLt
    omega
  · congr 1
    refine BitVec.eq_of_toNat_eq ?_
    rw [BitVec.toNat_ofNat]
    omega

/-- A word below 2^16 is read back from its two bytes. -/
theorem word_of_highLow {n : Nat} (h : n < 65536) : 256 * (BitVec.ofNat 8 (n / 256)).toNat + (BitVec.ofNat 8 n).toNat = n := by
  simp only [BitVec.toNat_ofNat]
  omega

theorem map_byteAt_range (bs : List Byte) : (List.range bs.length).map (byteAt bs) = bs := by
  refine List.ext_getElem (by simp) fun i h h' => ?_
  simp [byteAt, h']

theorem ofNat_natAt (bs : List Byte) (i : Nat) : BitVec.ofNat 8 (natAt bs i) = byteAt bs i := by
  unfold natAt
  rw [BitVec.ofNat_toNat, BitVec.setWidth_eq]

theorem eq_byteAt_of_toNat {b : Byte} {bs : List Byte} {i : Nat} (h : natAt bs i = b.toNat) : b = byteAt bs i :=
  BitVec.eq_of_toNat_eq h.symm

theorem setWidth_setWidth_of_le {b : Byte} (h : b.toNat ≤ 31) : (b.setWidth 5).setWidth 8 = b := by
  refine BitVec.eq_of_toNat_eq ?_
  simp only [BitVec.toNat_setWidth]
  omega

/-- A record read from 20 bytes has exactly those bytes (R169, R177). -/
theorem bytes_of_recordOf {bs : List Byte} {r : Record} (hlength : bs.length = 20) (h : recordOf bs = some r) : r.bytes = bs := by
  obtain ⟨hstation, -, ho, hb, hm, hm', heq⟩ := recordOf_eq_some.1 h
  have ho := eq_byteAt_of_toNat (orientationOf_eq_some.1 ho)
  have hb := eq_byteAt_of_toNat (bitRateOf_eq_some.1 hb)
  have hm := eq_byteAt_of_toNat (carryModeOf_eq_some.1 hm)
  have hm' := eq_byteAt_of_toNat (carryModeOf_eq_some.1 hm')
  have hmap : (List.range 20).map (byteAt bs) = bs := by rw [← hlength, map_byteAt_range]
  refine Eq.trans ?_ hmap
  rw [heq]
  simp only [Record.bytes, recordAt, natBytes16_eq_highLow, highLow_wordAt, ofNat_natAt, ho, hb, hm, hm',
    setWidth_setWidth_of_le hstation]
  rfl

/-- The bytes of a record, its words high byte first (R169). -/
theorem Record.bytes_eq (r : Record) :
    r.bytes = [r.station.setWidth 8, r.orientation.code] ++ highLow r.canvasWidth ++ highLow r.canvasHeight ++
      highLow r.originX ++ highLow r.originY ++ [BitVec.ofNat 8 r.columns, BitVec.ofNat 8 r.rows] ++
      highLow r.lineTime ++ highLow r.framePeriod ++
      [BitVec.ofNat 8 r.holdMultiple, r.bitRate.code, r.baseMode.code, r.overlayMode.code] := by
  simp only [Record.bytes, natBytes16_eq_highLow]

/-- Every valid record is read back from its own bytes (R169, R177). -/
theorem recordOf_bytes {r : Record} (h : r.valid = true) : recordOf r.bytes = some r := by
  obtain ⟨-, hwidth, -, hheight, hx, hy, -, hcolumns, -, hrows, -, hline, -, hperiod, -, hhold, -⟩ := (valid_iff r).1 h
  have hat (i : Nat) := congrArg (byteAt · i) r.bytes_eq
  have hnat {i : Nat} {b : Byte} (hi : byteAt r.bytes i = b) : natAt r.bytes i = b.toNat := congrArg BitVec.toNat hi
  have hbyte {i n : Nat} (hi : byteAt r.bytes i = BitVec.ofNat 8 n) (hn : n ≤ 128) : natAt r.bytes i = n := by
    rw [hnat hi, BitVec.toNat_ofNat]
    omega
  have hword {i n : Nat} (hi : byteAt r.bytes i = BitVec.ofNat 8 (n / 256)) (hi' : byteAt r.bytes (i + 1) = BitVec.ofNat 8 n)
      (hn : n < 65536) : wordAt r.bytes i = n := by
    unfold wordAt
    rw [hnat hi, hnat hi', word_of_highLow hn]
  have hstation : natAt r.bytes 0 ≤ 31 := by
    have hlt := r.station.isLt
    rw [hnat (b := r.station.setWidth 8) (hat 0), BitVec.toNat_setWidth_of_le (by decide)]
    omega
  have hown : (byteAt r.bytes 0).setWidth 5 = r.station := by
    rw [show byteAt r.bytes 0 = r.station.setWidth 8 from hat 0]
    refine BitVec.eq_of_toNat_eq ?_
    have hlt := r.station.isLt
    simp only [BitVec.toNat_setWidth]
    omega
  refine recordOf_eq_some.2 ⟨hstation, h, orientationOf_eq_some.2 (hnat (hat 1)), bitRateOf_eq_some.2 (hnat (hat 17)),
    carryModeOf_eq_some.2 (hnat (hat 18)), carryModeOf_eq_some.2 (hnat (hat 19)), ?_⟩
  unfold recordAt
  rw [hown, hword (hat 2) (hat 3) (by omega), hword (hat 4) (hat 5) (by omega), hword (hat 6) (hat 7) (by omega),
    hword (hat 8) (hat 9) (by omega), hword (hat 12) (hat 13) (by omega), hword (hat 14) (hat 15) (by omega),
    hbyte (hat 10) hcolumns, hbyte (hat 11) (by omega), hbyte (hat 16) (by omega)]

/-- The digest is over bytes 2 to 5 and 14 to 19 (R39). -/
theorem wallBytes_of_bytes (r : Record) : r.wallBytes = (r.bytes.drop 2).take 4 ++ (r.bytes.drop 14).take 6 := rfl

/-- The checks of CONFIGURE on the 20 bytes: the ranges of the record table, the geometry and the scan-pass fit (R4, R169, R173). -/
def ChecksPass (ps : List Byte) : Prop :=
  let C := natAt ps 10
  let R := natAt ps 11
  let turned := 4 ≤ natAt ps 1
  natAt ps 0 ≤ 31 ∧ natAt ps 1 ≤ 7 ∧ 16 ≤ wordAt ps 2 ∧ wordAt ps 2 ≤ 4096 ∧ 16 ≤ wordAt ps 4 ∧ wordAt ps 4 ≤ 4096 ∧
    wordAt ps 6 ≤ 4095 ∧ wordAt ps 8 ≤ 4095 ∧ 16 ≤ C ∧ C ≤ 128 ∧ 16 ≤ R ∧ R ≤ 96 ∧
    20 ≤ wordAt ps 12 ∧ wordAt ps 12 ≤ 500 ∧ 80 ≤ wordAt ps 14 ∧ wordAt ps 14 ≤ 1000 ∧ 2 ≤ natAt ps 16 ∧ natAt ps 16 ≤ 8 ∧
    natAt ps 17 ≤ 2 ∧ natAt ps 18 ≤ 2 ∧ natAt ps 19 ≤ 2 ∧
    wordAt ps 6 + (if turned then R else C) ≤ wordAt ps 2 ∧ wordAt ps 8 + (if turned then C else R) ≤ wordAt ps 4 ∧
    R * wordAt ps 12 ≤ wordAt ps 14 * 100

/-- The bytes carry a record exactly when every check passes. -/
theorem recordOf_isSome_iff (ps : List Byte) : (recordOf ps).isSome ↔ ChecksPass ps := by
  have hview {o b m m'} (ho : orientationOf (natAt ps 1) = some o) :
      (recordAt ps o b m m').viewWidth = (if 4 ≤ natAt ps 1 then natAt ps 11 else natAt ps 10) ∧
      (recordAt ps o b m m').viewHeight = (if 4 ≤ natAt ps 1 then natAt ps 10 else natAt ps 11) := by
    simp only [Record.viewWidth, Record.viewHeight, recordAt, turned_of_orientationOf ho, and_self]
  constructor
  · intro h
    obtain ⟨r, hr⟩ := Option.isSome_iff_exists.1 h
    obtain ⟨hstation, hvalid, ho, hb, hm, hm', heq⟩ := recordOf_eq_some.1 hr
    rw [heq, valid_iff, (hview ho).1, (hview ho).2] at hvalid
    obtain ⟨h1, h2, h3, h4, h5, h6, h7, h8, h9, h10, h11, h12, h13, h14, h15, h16, hx, hy, hfit⟩ := hvalid
    exact ⟨hstation, (orientationOf_isSome _).1 (ho ▸ rfl), h1, h2, h3, h4, h5, h6, h7, h8, h9, h10, h11, h12, h13, h14, h15, h16,
      (bitRateOf_isSome _).1 (hb ▸ rfl), (carryModeOf_isSome _).1 (hm ▸ rfl), (carryModeOf_isSome _).1 (hm' ▸ rfl), hx, hy, hfit⟩
  · rintro ⟨hstation, ho, h1, h2, h3, h4, h5, h6, h7, h8, h9, h10, h11, h12, h13, h14, h15, h16, hb, hm, hm', hx, hy, hfit⟩
    obtain ⟨o, ho⟩ := Option.isSome_iff_exists.1 ((orientationOf_isSome _).2 ho)
    obtain ⟨b, hb⟩ := Option.isSome_iff_exists.1 ((bitRateOf_isSome _).2 hb)
    obtain ⟨m, hm⟩ := Option.isSome_iff_exists.1 ((carryModeOf_isSome _).2 hm)
    obtain ⟨m', hm'⟩ := Option.isSome_iff_exists.1 ((carryModeOf_isSome _).2 hm')
    have hvalid : (recordAt ps o b m m').valid = true := by
      rw [valid_iff, (hview ho).1, (hview ho).2]
      exact ⟨h1, h2, h3, h4, h5, h6, h7, h8, h9, h10, h11, h12, h13, h14, h15, h16, hx, hy, hfit⟩
    rw [recordOf_eq_some.2 ⟨hstation, hvalid, ho, hb, hm, hm', rfl⟩]
    rfl

/-- A CONFIGURE whose checks pass, in a station state that lists it (R174). -/
theorem exec_configure_of_record {s : State} {ps : List Byte} {r : Record} (hphase : s.port.phase = .command)
    (hstation : s.join.station = .unconfigured ∨ s.join.station = .configured) (hlength : ps.length = 20) (hr : recordOf ps = some r) :
    exec (.configure ps) s = .next
      (taken { s with
          record := some r
          digest := some (crc ((ps.drop 2).take 4 ++ (ps.drop 14).take 6))
          join.station := .configured
          link := { view := .waiting, idleCount := 0, bitOpen := false, atSlot := false, refuse := false, drive := .released }
          rx := { s.rx with outcome := none, undo := none }
          frame := { s.frame with
            request := s.frame.request.map fun q => { q with passEnd := true }
            scan := some { row := 0, base := s.frame.shownBase, overlay := s.frame.shownOverlay } } }
        (0x10 :: ps) [0x00]) := by
  have hlisted : inConfigure s.join.station = true := by rcases hstation with h | h <;> rw [h] <;> rfl
  have hwall : crc r.wallBytes = crc ((ps.drop 2).take 4 ++ (ps.drop 14).take 6) := by
    rw [wallBytes_of_bytes, bytes_of_recordOf hlength hr]
  refine congrArg Host.Outcome.next ((State.receive_whole hphase 0x10 (fun _ => 20) hlength hlisted _).trans ?_)
  simp only [hr, State.configureWith, hwall, FrameStore.passEnded_eq]
  rfl

/-- READ_CONFIG in a station state that lists it (R177). -/
theorem exec_readConfig_of_record {s : State} {r : Record} {d : BitVec 16} (hphase : s.port.phase = .command)
    (hlisted : inReadConfig s.join.station = true) (hr : s.record = some r) (hd : s.digest = some d) :
    exec .readConfig s = .next (taken s [0x13] (0x00 :: (r.bytes ++ highLow d.toNat ++
      [match s.join.mismatch with
        | none => 255
        | some n => BitVec.ofNat 8 n.toNat]))) := by
  have hmismatch : mismatchCode s.join.mismatch = match s.join.mismatch with
      | none => 255
      | some n => BitVec.ofNat 8 n.toNat := by
    cases s.join.mismatch with
    | none => rfl
    | some n => exact (BitVec.ofNat_toNat ..).symm
  have hrecord : (taken s [0x13] s.port.response).configRecord = r.bytes ++ highLow d.toNat ++ [mismatchCode s.join.mismatch] := by
    simp only [State.configRecord, show (taken s [0x13] s.port.response).record = some r from hr,
      show (taken s [0x13] s.port.response).digest = some d from hd, bytes16_eq_highLow]
    rfl
  refine congrArg Host.Outcome.next ((State.receive_whole hphase 0x13 (fun _ => 0) rfl hlisted _).trans ?_)
  simp only [hrecord, hmismatch]
  rfl

end Sys2Proof.Machine
end

section
/-! The statements on the configuration record and START. -/

namespace Sys2Proof.Proofs

open Sys2Proof.Machine Sys2Proof.Safety

/-- Settles O13: the bytes carry a record exactly when every check passes, and the record then replaces the old one whole. -/
theorem configureChecksAndReplacesTheRecord : Obligations.ConfigureChecksAndReplacesTheRecord := by
  refine ⟨fun ps s hphase hstation hlength => ⟨fun hfails => ?_, fun hpasses => ?_⟩,
    fun ps r s hphase hstation hlength hr => exec_configure_of_record hphase hstation hlength hr⟩
  · have hnone : recordOf ps = none := by
      rw [← Option.not_isSome_iff_eq_none, recordOf_isSome_iff]
      exact hfails
    have hlisted : inConfigure s.join.station = true := by rcases hstation with h | h <;> rw [h] <;> rfl
    refine congrArg Host.Outcome.next ((State.receive_whole hphase 0x10 (fun _ => 20) hlength hlisted _).trans ?_)
    simp only [hnone]
    rfl
  · obtain ⟨r, hr⟩ := Option.isSome_iff_exists.1 ((recordOf_isSome_iff ps).2 hpasses)
    exact ⟨_, exec_configure_of_record hphase hstation hlength hr, rfl⟩

/-- Settles O14: the codes are read back from their values, the words from their two bytes. -/
theorem recordBytesRoundTrip : Obligations.RecordBytesRoundTrip := by
  refine ⟨fun bs r hlength hr => ?_, fun r hvalid => ⟨rfl, recordOf_bytes hvalid⟩, fun bs r hlength hr =>
    ⟨bytes_of_recordOf hlength hr, (recordOf_eq_some.1 hr).2.1⟩⟩
  obtain ⟨hstation, -, ho, hb, hm, hm', heq⟩ := recordOf_eq_some.1 hr
  have ho := orientationOf_eq_some.1 ho
  have hb := bitRateOf_eq_some.1 hb
  have hm := carryModeOf_eq_some.1 hm
  have hm' := carryModeOf_eq_some.1 hm'
  have hmode (m : CarryMode) : (m.code.toNat, m) ∈ [(0, CarryMode.keep), (1, .carry), (2, .clear)] := by cases m <;> decide
  unfold natAt byteAt at ho hb hm hm' hstation
  dsimp only
  rw [ho, hb, hm, hm']
  refine ⟨?_, ?_, congrArg Record.canvasWidth heq, congrArg Record.canvasHeight heq, congrArg Record.originX heq,
    congrArg Record.originY heq, congrArg Record.columns heq, congrArg Record.rows heq, congrArg Record.lineTime heq,
    congrArg Record.framePeriod heq, congrArg Record.holdMultiple heq, ?_, hmode _, hmode _⟩
  · rw [heq]
    show ((byteAt bs 0).setWidth 5).toNat = (byteAt bs 0).toNat
    rw [BitVec.toNat_setWidth]
    exact Nat.mod_eq_of_lt (Nat.lt_succ_of_le hstation)
  · cases r.orientation <;> decide
  · cases r.bitRate <;> decide

/-- Settles O15: READ_CONFIG answers the record in force, which the CONFIGURE before it set from its bytes. -/
theorem readConfigReturnsTheConfigureBytes : Obligations.ReadConfigReturnsTheConfigureBytes := by
  refine ⟨fun ps s t1 t2 t3 hphase hheld hstation hlength hr h1 h2 h3 => ?_, fun s r d hphase hstarting hunconfigured hr hd => ?_⟩
  · obtain ⟨r, hr⟩ := Option.isSome_iff_exists.1 hr
    rw [exec_configure_of_record hphase hstation hlength hr] at h1
    cases h1
    simp only [exec, execPselRise, taken, hheld] at h2
    cases h2
    simp only [exec, execPselFall] at h3
    cases h3
    obtain rfl := bytes_of_recordOf hlength hr
    exact exec_readConfig_of_record rfl rfl rfl rfl
  · refine exec_readConfig_of_record hphase ?_ hr hd
    cases h : s.join.station <;> simp_all [inReadConfig]

/-- Settles O16: the join begins, and with no request standing each layer's pass begins as its carry mode has it. -/
theorem startBeginsTheJoin : Obligations.StartBeginsTheJoin := by
  intro s r hphase hstation hr hrequest
  have hlisted : inStart s.join.station = true := by
    rw [hstation]
    rfl
  refine congrArg Host.Outcome.next ((State.receive_whole hphase 0x11 (fun _ => 0) rfl hlisted _).trans ?_)
  have hrecord : (taken s [0x11] s.port.response).record = some r := hr
  have hsteady : (taken s [0x11] s.port.response).frame.afterPass = .steady := FrameStore.afterPass_of_no_request hrequest
  simp only [hrecord, hr, State.startJoining, FrameStore.beginPasses_eq, hsteady]
  rfl

end Sys2Proof.Proofs
end

section
/-! SUPPORT. The content commands: what their parameter bytes carry, and the payloads in the staging store. -/

namespace Sys2Proof.Machine

open Sys2Proof.Safety

/-! ### What the parameter bytes carry (R178–R180) -/

/-- The checks of a PUT FILL, on a canvas (R179). -/
def FillPasses (r : Record) (ps : List Byte) : Prop :=
  natAt ps 0 ≤ 1 ∧ natAt ps 1 ≤ 1 ∧ wordAt ps 2 ≤ 4095 ∧ wordAt ps 4 ≤ 4095 ∧ 1 ≤ wordAt ps 6 ∧ wordAt ps 6 ≤ 4096 ∧
    1 ≤ wordAt ps 8 ∧ wordAt ps 8 ≤ 4096 ∧ wordAt ps 2 + wordAt ps 6 ≤ r.canvasWidth ∧
    wordAt ps 4 + wordAt ps 8 ≤ r.canvasHeight ∧ natAt ps 10 ≤ 63 ∧ natAt ps 11 ≤ 63 ∧ natAt ps 12 ≤ 63

/-- The request that a PUT FILL carries. -/
def fillAt (ps : List Byte) : RequestBody :=
  .fill (if natAt ps 0 = 1 then .overlay else .base) ⟨wordAt ps 2, wordAt ps 4, wordAt ps 6, wordAt ps 8⟩
    ⟨BitVec.ofNat 6 (natAt ps 10), BitVec.ofNat 6 (natAt ps 11), BitVec.ofNat 6 (natAt ps 12)⟩ (decide (natAt ps 1 = 1))

theorem componentsFit_iff (bs : List Byte) : componentsFit bs = true ↔ ∀ b ∈ bs, b.toNat ≤ 63 := by
  simp [componentsFit]

theorem colorOf_eq (r g b : Byte) : colorOf r g b = ⟨BitVec.ofNat 6 r.toNat, BitVec.ofNat 6 g.toNat, BitVec.ofNat 6 b.toNat⟩ := by
  simp only [colorOf, BitVec.ofNat_toNat]

theorem State.fitsCanvas_iff {s : State} {r : Record} (hr : s.record = some r) (q : Rect) :
    s.fitsCanvas q = true ↔ q.x + q.width ≤ r.canvasWidth ∧ q.y + q.height ≤ r.canvasHeight := by
  simp [State.fitsCanvas, hr, Rect.fits]

/-- The body of a PUT FILL: what its bytes carry when its checks pass, and none otherwise (R179). -/
theorem State.fillBody_eq {s : State} {r : Record} {ps : List Byte} (hr : s.record = some r) (hlength : ps.length = 13) :
    (FillPasses r ps → s.fillBody ps = some (fillAt ps)) ∧ (¬ FillPasses r ps → s.fillBody ps = none) := by
  have hcolor : componentsFit (ps.drop 10) = true ↔ natAt ps 10 ≤ 63 ∧ natAt ps 11 ≤ 63 ∧ natAt ps 12 ≤ 63 := by
    have hmap : (List.range 13).map (byteAt ps) = ps := by rw [← hlength, map_byteAt_range]
    have hdrop : ps.drop 10 = [byteAt ps 10, byteAt ps 11, byteAt ps 12] := (congrArg (List.drop 10) hmap).symm
    rw [componentsFit_iff, hdrop]
    simp [natAt]
  by_cases hlayer : natAt ps 0 ≤ 1
  · simp only [State.fillBody, layerOf_of_le hlayer, State.fitsCanvas_iff hr, hcolor, colorOf_eq]
    constructor
    · rintro ⟨-, h1, h2, h3, h4, h5, h6, h7, h8, h9, hfit⟩
      rw [if_pos ⟨h1, h2, h3, h4, h5, h6, h7, ⟨h8, h9⟩, hfit⟩]
      rfl
    · intro h
      rw [if_neg]
      rintro ⟨h1, h2, h3, h4, h5, h6, h7, ⟨h8, h9⟩, hfit⟩
      exact h ⟨hlayer, h1, h2, h3, h4, h5, h6, h7, h8, h9, hfit⟩
  · simp only [State.fillBody, layerOf_of_gt hlayer]
    exact ⟨fun h => absurd h.1 hlayer, fun _ => trivial⟩

/-- The body of a PUT LOOK (R180). -/
theorem lookBody_eq (ps : List Byte) :
    (natAt ps 0 ≤ 1 ∧ natAt ps 1 ≤ 1 ∧ natAt ps 2 ≤ 15 → lookBody ps =
      some (.look ⟨decide (natAt ps 0 = 1), decide (natAt ps 1 = 1), BitVec.ofNat 4 (natAt ps 2)⟩)) ∧
    (¬ (natAt ps 0 ≤ 1 ∧ natAt ps 1 ≤ 1 ∧ natAt ps 2 ≤ 15) → lookBody ps = none) := by
  refine ⟨fun h => ?_, fun h => if_neg h⟩
  unfold lookBody
  rw [if_pos h, natAt, natAt, natAt, BitVec.ofNat_toNat]

/-- The checks of a PUT STRIPE, on a canvas (R171, R179). -/
def StripePasses (r : Record) (ps : List Byte) : Prop :=
  StripeShapePasses ps ∧ wordAt ps 2 ≤ 4095 ∧ wordAt ps 4 ≤ 4095 ∧ wordAt ps 2 + wordAt ps 6 ≤ r.canvasWidth ∧
    wordAt ps 4 + natAt ps 8 ≤ r.canvasHeight ∧ (natAt ps 1 = 2 → ∀ b ∈ ps.drop 9, b.toNat ≤ 63)

/-- The request that a PUT STRIPE carries. -/
def stripeAt (ps : List Byte) : RequestBody :=
  .stripe (if natAt ps 0 = 1 then .overlay else .base) (formatAt (natAt ps 1))
    ⟨wordAt ps 2, wordAt ps 4, wordAt ps 6, natAt ps 8⟩ 0

/-- The body of a PUT STRIPE and its payload: what its bytes carry when its checks pass, and none otherwise (R179). -/
theorem State.stripeBody_eq {s : State} {r : Record} {ps : List Byte} (hr : s.record = some r) :
    (StripePasses r ps → s.stripeBody ps = some (stripeAt ps, payloadPixels (formatAt (natAt ps 1)) (ps.drop 9))) ∧
    (¬ StripePasses r ps → s.stripeBody ps = none) := by
  have hformat : natAt ps 1 ≤ 2 → (formatAt (natAt ps 1) = .rgb666 ↔ natAt ps 1 = 2) := by
    intro h
    generalize natAt ps 1 = n at h
    interval_cases n <;> decide
  by_cases hshape : StripeShapePasses ps
  · simp only [State.stripeBody, stripeShape_of_passes hshape, State.fitsCanvas_iff hr, hformat hshape.2.1, componentsFit_iff]
    constructor
    · rintro ⟨-, h1, h2, h3, h4, h5⟩
      rw [if_pos ⟨h1, h2, ⟨h3, h4⟩, h5⟩]
      rfl
    · intro h
      rw [if_neg]
      rintro ⟨h1, h2, ⟨h3, h4⟩, h5⟩
      exact h ⟨hshape, h1, h2, h3, h4, h5⟩
  · simp only [State.stripeBody, stripeShape_of_fails hshape]
    exact ⟨fun h => absurd h.1 hshape, fun _ => trivial⟩

/-- The body of a PUT PALETTE and its payload (R180). -/
theorem paletteBody_eq (ps : List Byte) :
    (1 ≤ natAt ps 1 ∧ natAt ps 1 ≤ 16 ∧ natAt ps 0 + natAt ps 1 ≤ 256 ∧ (∀ b ∈ ps.drop 2, b.toNat ≤ 63) →
      paletteBody ps = some (.palette (natAt ps 0) (natAt ps 1) 0, (colorsOf (ps.drop 2)).map .rgb666)) ∧
    (¬ (1 ≤ natAt ps 1 ∧ natAt ps 1 ≤ 16 ∧ natAt ps 0 + natAt ps 1 ≤ 256 ∧ ∀ b ∈ ps.drop 2, b.toNat ≤ 63) →
      paletteBody ps = none) := by
  have hshape : paletteShape ps = true ↔ 1 ≤ natAt ps 1 ∧ natAt ps 1 ≤ 16 ∧ natAt ps 0 + natAt ps 1 ≤ 256 := by
    simp [paletteShape, and_assoc]
  simp only [paletteBody, componentsFit_iff, hshape]
  refine ⟨fun ⟨h1, h2, h3, h4⟩ => if_pos ⟨⟨h1, h2, h3⟩, h4⟩, fun h => if_neg ?_⟩
  rintro ⟨⟨h1, h2, h3⟩, h4⟩
  exact h ⟨h1, h2, h3, h4⟩

/-! ### The staging store as one ring (R116) -/

/-- The places of the staging store that a request's payload takes, in order. -/
def RequestBody.run : RequestBody → List Nat
  | .stripe _ _ rect start => runPlaces start (rect.width * rect.height)
  | .palette _ count start => runPlaces start count
  | .fill .. | .look _ | .endFrame | .withdraw => []

theorem Publisher.payloadOf_eq (p : Publisher) (body : RequestBody) :
    p.payloadOf body = body.run.map (Memory.read (.idx8 0) p.staging) := by cases body <;> rfl

theorem mem_runPlaces {start n j : Nat} : j ∈ runPlaces start n ↔ ∃ i < n, j = (start + i) % 4096 := by
  simp [runPlaces, Config.stagingPlaces, eq_comm]

/-- A run no longer than the ring takes no place twice. -/
theorem runPlaces_nodup {start n : Nat} (h : n ≤ 4096) : (runPlaces start n).Nodup := by
  refine List.Nodup.map_on (fun i hi j hj heq => ?_) List.nodup_range
  rw [List.mem_range] at hi hj
  simp only [Config.stagingPlaces] at heq
  omega

/-- The payloads of a queue lie behind its start, and the next payload just behind them. -/
theorem places_of_runsFrom {stop : Nat} :
    ∀ {queue : List Request} {start : Nat}, runsFrom start stop queue →
      stop % 4096 = (start + (queue.map fun q => q.body.places).sum) % 4096 ∧
      ∀ q ∈ queue, ∀ j ∈ q.body.run, ∃ k < (queue.map fun q => q.body.places).sum, j = (start + k) % 4096
  | [], start, h => ⟨by simpa using Eq.symm h, by simp⟩
  | q :: rest, start, h => by
    obtain ⟨hstop, hplaces⟩ := places_of_runsFrom (runsFrom_tail h)
    have hown : ∀ j ∈ q.body.run, ∃ k < q.body.places, j = (start + k) % 4096 := by
      intro j hj
      obtain ⟨body, attempts⟩ := q
      cases body with
      | stripe _ _ rect p | palette _ count p =>
        obtain ⟨i, hi, rfl⟩ := mem_runPlaces.1 hj
        exact ⟨i, hi, by rw [Nat.add_mod, h.1, ← Nat.add_mod]⟩
      | fill | look | endFrame | withdraw => cases hj
    simp only [List.map_cons, List.sum_cons]
    refine ⟨by rw [hstop, Nat.add_assoc], fun q' hq' j hj => ?_⟩
    rcases List.mem_cons.1 hq' with rfl | hq'
    · obtain ⟨k, hk, rfl⟩ := hown j hj
      exact ⟨k, by omega, rfl⟩
    · obtain ⟨k, hk, rfl⟩ := hplaces q' hq' j hj
      exact ⟨q.body.places + k, by omega, by rw [Nat.add_assoc]⟩

/-- Values written at places no two of which are the same read back in order. -/
theorem Memory.read_writeAll_zip {α : Type} [DecidableEq α] {d : α} :
    ∀ (ks : List Nat) (vs : List α) {m : Memory α}, Memory.wf d m → ks.Nodup → ks.length = vs.length →
      ks.map (Memory.read d (Memory.writeAll d m (ks.zip vs))) = vs
  | [], [], _, _, _, _ => rfl
  | k :: ks, v :: vs, m, hm, hnodup, hlength => by
    rw [List.nodup_cons] at hnodup
    have hwrite := Memory.wf_write k v hm
    have hrest := Memory.read_writeAll_zip ks vs hwrite hnodup.2 (by simpa using hlength)
    have hfirst : Memory.read d (Memory.writeAll d (Memory.write d m k v) (ks.zip vs)) k = v := by
      rw [Memory.read_writeAll_of_not_mem _ hwrite k fun c hc hck => hnodup.1 (hck ▸ (List.of_mem_zip hc).1),
        Memory.read_write _ _ _ hm, if_pos rfl]
    show Memory.read d (Memory.writeAll d (Memory.write d m k v) (ks.zip vs)) k ::
      ks.map (Memory.read d (Memory.writeAll d (Memory.write d m k v) (ks.zip vs))) = v :: vs
    rw [hfirst, hrest]

/-- A payload staged behind the others reads back whole, and leaves every payload before it as it was (R116, R117). -/
theorem Publisher.append_payloads {p : Publisher} (hrun : OneRun p) (hwf : Memory.wf (RawPixel.idx8 0) p.staging)
    {body : RequestBody} {payload : List RawPixel} (hbody : (body.at p.stagingNext).run = runPlaces p.stagingNext payload.length)
    (hroom : payload.length + p.placesUsed ≤ 4096) :
    (p.append body payload).payloadOf (body.at p.stagingNext) = payload ∧
      ∀ q ∈ p.queue, (p.append body payload).payloadOf q.body = p.payloadOf q.body := by
  have hlength : (runPlaces p.stagingNext payload.length).length = payload.length := by simp [runPlaces]
  refine ⟨?_, fun q hq => ?_⟩
  · rw [Publisher.payloadOf_eq, hbody]
    exact Memory.read_writeAll_zip _ _ hwf (runPlaces_nodup (by omega)) hlength
  · rw [Publisher.payloadOf_eq, Publisher.payloadOf_eq]
    refine List.map_congr_left fun j hj => Memory.read_writeAll_of_not_mem _ hwf j fun c hc hcj => ?_
    obtain ⟨start, hrun⟩ := hrun
    obtain ⟨hnext, hplaces⟩ := places_of_runsFrom hrun
    obtain ⟨k, hk, rfl⟩ := hplaces q hq j hj
    obtain ⟨i, hi, heq⟩ := mem_runPlaces.1 (List.of_mem_zip hc).1
    rw [hcj] at heq
    change payload.length + (p.queue.map fun q => q.body.places).sum ≤ 4096 at hroom
    omega

/-! ### A request with room in the queue and the staging store (R117) -/

theorem State.request_of_room {s : State} {body : RequestBody} (hqueue : s.pub.queue.length < 16)
    (hplaces : body.places + s.pub.placesUsed ≤ 4096) (payload : List RawPixel) :
    s.request body payload = (State.settle { s with pub := s.pub.append body payload }, .ok, []) := by
  have hfree : body.places ≤ s.pub.stagingFree := Nat.le_sub_of_add_le hplaces
  have htake : s.takeRequest body payload = ({ s with pub := s.pub.append body payload }, .ok) := if_pos ⟨hqueue, hfree⟩
  simp only [State.request, htake]

/-- A content command that passes its checks, with room, is answered OK. -/
theorem State.receive_request {s : State} (hphase : s.port.phase = .command) (hstation : TakesContent s.join.station)
    (hqueue : s.pub.queue.length < 16) (code : Byte) {ps : List Byte} {need : List Byte → Nat} (hneed : ps.length = need ps)
    (body : RequestBody) (payload : List RawPixel) (hplaces : body.places + s.pub.placesUsed ≤ 4096)
    {act : List Byte → State → State × Result × List Byte}
    (hact : ∀ t : State, t.record = s.record → act ps t = t.request body payload) :
    s.receive code ps need inContent act = answered
      { s with pub := s.pub.append body payload, port := { s.port with phase := .response, command := code :: ps } } [0x00] := by
  rw [State.receive_whole hphase code need hneed (inContent_of_takesContent hstation)]
  simp only [hact (taken s (code :: ps) s.port.response) rfl,
    State.request_of_room (s := taken s (code :: ps) s.port.response) hqueue hplaces payload]
  rfl

/-- A content command whose checks fail is answered ILLEGAL with nothing changed (R172). -/
theorem State.receive_illegal {s : State} (hphase : s.port.phase = .command) (hstation : TakesContent s.join.station)
    (code : Byte) {ps : List Byte} {need : List Byte → Nat} (hneed : ps.length = need ps)
    {act : List Byte → State → State × Result × List Byte}
    (hact : ∀ t : State, t.record = s.record → act ps t = (t, .illegal, [])) :
    s.receive code ps need inContent act = taken s (code :: ps) [0x02] := by
  rw [State.receive_whole hphase code need hneed (inContent_of_takesContent hstation)]
  simp only [hact (taken s (code :: ps) s.port.response) rfl]
  rfl

end Sys2Proof.Machine
end

section
/-! The statements on the content commands: O17, O18 and O19. -/

namespace Sys2Proof.Proofs

open Sys2Proof.Machine Sys2Proof.Safety

/-- Settles O17: each command's bytes carry its request, which is appended without a payload. -/
theorem requestsWithoutPayloadAreQueued : Obligations.RequestsWithoutPayloadAreQueued := by
  intro s hphase hstation hqueue hplaces
  have hroom {body : RequestBody} (hbody : body.places = 0) : body.places + s.pub.placesUsed ≤ 4096 := by omega
  refine ⟨?_, ?_, fun visible invert dim hvisible hinvert hdim => ?_,
    fun ps r hlength hr h0 h1 h2 h4 h6 h6' h8 h8' hx hy h10 h11 h12 => ?_⟩
  · exact congrArg Host.Outcome.next (State.receive_request hphase hstation hqueue 0x24 (need := fun _ => 0) rfl
      .endFrame [] (hroom rfl) fun t _ => rfl)
  · exact congrArg Host.Outcome.next (State.receive_request hphase hstation hqueue 0x25 (need := fun _ => 0) rfl
      .withdraw [] (hroom rfl) fun t _ => rfl)
  · have hone (b : Byte) : decide (b.toNat = 1) = decide (b = 1) := decide_eq_decide.2 (BitVec.toNat_inj (y := 1))
    have hbody : lookBody [visible, invert, dim] =
        some (.look ⟨decide (visible.toNat = 1), decide (invert.toNat = 1), BitVec.ofNat 4 dim.toNat⟩) :=
      (lookBody_eq [visible, invert, dim]).1 ⟨hvisible, hinvert, hdim⟩
    rw [hone, hone] at hbody
    exact congrArg Host.Outcome.next (State.receive_request hphase hstation hqueue 0x23 (need := fun _ => 3) rfl
      (.look ⟨decide (visible = 1), decide (invert = 1), BitVec.ofNat 4 dim.toNat⟩) [] (hroom rfl) fun t _ => by simp only [hbody])
  · have hpasses : FillPasses r ps := ⟨h0, h1, h2, h4, h6, h6', h8, h8', hx, hy, h10, h11, h12⟩
    exact congrArg Host.Outcome.next (State.receive_request hphase hstation hqueue 0x21 (need := fun _ => 13) hlength
      (fillAt ps) [] (hroom rfl) fun t ht => by
        simp only [(State.fillBody_eq (s := t) (ht.trans hr) hlength).1 hpasses])

/-- Settles O18: the payload takes the run behind the others, which lie in the rest of the ring. -/
theorem payloadsAreStagedWhole : Obligations.PayloadsAreStagedWhole := by
  intro s r hphase hstation hr hrun hwf hqueue
  refine ⟨fun ps hlength h0 h1 h6 h6' h8 h8' hsize h2 h4 hx hy hcolor hroom => ?_, fun ps hlength h1 h1' hindex hcolor hroom => ?_⟩
  · have hpasses : StripePasses r ps := ⟨⟨h0, h1, h6, h6', h8, h8', hsize⟩, h2, h4, hx, hy, hcolor⟩
    have hbody {t : State} (ht : t.record = s.record) := (State.stripeBody_eq (s := t) (ps := ps) (ht.trans hr)).1 hpasses
    have hpixels : (payloadPixels (formatAt (natAt ps 1)) (ps.drop 9)).length = wordAt ps 6 * natAt ps 8 := by
      refine payloadPixels_length _ ?_
      have hparams := stripeParams_of_shape ((nine_le_stripeParams ps).trans hlength.ge) (stripeShape_of_passes hpasses.1)
      rw [List.length_drop, hlength, hparams]
      exact Nat.add_sub_cancel_left ..
    obtain ⟨hread, hothers⟩ := Publisher.append_payloads hrun hwf (body := stripeAt ps)
      (payload := payloadPixels (formatAt (natAt ps 1)) (ps.drop 9)) (by rw [hpixels]; rfl) (by rwa [hpixels])
    exact ⟨_, _, congrArg Host.Outcome.next (State.receive_request hphase hstation hqueue 0x20 hlength (stripeAt ps) _ hroom fun t ht => by
      simp only [hbody ht]), rfl, rfl, ⟨_, rfl⟩, hread, hothers⟩
  · have hbody := (paletteBody_eq ps).1 ⟨h1, h1', hindex, hcolor⟩
    have hcolors : ((colorsOf (ps.drop 2)).map RawPixel.rgb666).length = natAt ps 1 := by
      have hshape : paletteShape ps = true := by simp [paletteShape, h1, h1', hindex]
      have hparams := paletteParams_of_shape ((two_le_paletteParams ps).trans hlength.ge) hshape
      rw [List.length_map, colorsOf_length, List.length_drop, hlength, hparams]
      omega
    obtain ⟨hread, hothers⟩ := Publisher.append_payloads hrun hwf (body := .palette (natAt ps 0) (natAt ps 1) 0)
      (payload := (colorsOf (ps.drop 2)).map .rgb666) (by rw [hcolors]; rfl) (by rwa [hcolors])
    exact ⟨_, _, congrArg Host.Outcome.next (State.receive_request hphase hstation hqueue 0x22 hlength (.palette (natAt ps 0) (natAt ps 1) 0) _ hroom fun t _ => by
      simp only [hbody]), rfl, rfl, ⟨_, rfl⟩, hread, hothers⟩

/-- A MEMBER with tag 5 and 16 requests queued, between the completion and the slot of a JOIN whose digest differed: MISMATCH was raised
then, and TAKE_EVENTS has cleared it since. -/
def memberBeforeSlot : State :=
  let join : Join := { Join.reset with station := .member }
  let barrier : Barrier := { Barrier.reset with phase := some .filling, driverLow := true, timerRunning := true, fillTag := some 5,
                                                confirmed := some .low }
  { State.reset with
    join := { join with mismatch := some 9 }
    barrier := barrier
    link := { Link.reset with view := .burst, atSlot := true }
    rx := { Receiver.reset with undo := some ⟨0x400, 0, 0, 0, 0, 0, some ⟨join, barrier, none, .same⟩⟩ }
    pub := { Publisher.reset with queue := List.replicate 16 ⟨.endFrame, 0⟩ }
    port := { Port.reset with psel := .low, phase := .command } }

theorem settled_memberBeforeSlot : Settled memberBeforeSlot := by
  refine ⟨?_, ?_, ?_, ?_, ?_, ?_⟩ <;> decide

/-- The event flags that a truncation would take back of an outcome. -/
def raisedKept : Host.Outcome State Fault Refusal → Option (BitVec 11)
  | .next t => t.rx.undo.map Undo.raised
  | _ => none

/-- Refutes O19: a content command that finds no room settles, and between a completion that changed a block and its slot settling
writes anew what a truncation takes back, so the undo record does not stay. -/
theorem not_contentCommandsTurnedAway : ¬ Obligations.ContentCommandsTurnedAway := by
  rintro ⟨-, h⟩
  have hfull := ((h memberBeforeSlot rfl (.inr (.inr rfl)) settled_memberBeforeSlot).1 rfl).1
  exact absurd (congrArg raisedKept hfull) (by decide)

end Sys2Proof.Proofs
end

section
/-! SUPPORT. The outcomes of a transmission as equations, and the arbiter's ranking. -/

namespace Sys2Proof.Machine

open Sys2Proof.Safety

/-! ### The outcomes of a request (R122–R129) -/

theorem State.holdIf_eq (s : State) (b : Bool) : s.holdIf b = { s with pub.held := s.pub.held || b } := by
  cases b <;> simp [State.holdIf]

/-- The station after the head of the queue has left it: the event SPACE when a FULL answer stood, and an END outcome's HELD (R118,
R125). -/
def State.headGone (s : State) (rest : List Request) (c : Counters) (ev : BitVec 11) (held : Bool) : State :=
  { s with pub := { s.pub with queue := rest, transmission := none, spaceWanted := false, held := s.pub.held || held }
           port := { s.port with counters := c, events := ev ||| (if s.pub.spaceWanted then 0x020 else 0) } }

/-- The station with the head of the queue kept, at its count of attempts (R123). -/
def State.headKept (s : State) (q : Request) (rest : List Request) (c : Counters) (n : Nat) : State :=
  { s with pub := { s.pub with queue := { q with attempts := n } :: rest, transmission := none }
           port := { s.port with counters := c } }

section Request
variable {s : State} {t : Transmission} {q : Request} {rest : List Request}

/-- The head removed, with the transmission over. -/
theorem State.removeHead_of_report (hq : s.pub.queue = q :: rest) :
    State.removeHead { s with pub.transmission := none } = s.headGone rest s.port.counters s.port.events false := by
  rw [State.removeHead_eq (s := { s with pub.transmission := none }) hq]
  cases h : s.pub.spaceWanted <;> simp [State.headGone, h]

theorem State.report_request (ht : s.pub.transmission = some t) (hsource : t.source = .request) (hq : s.pub.queue = q :: rest)
    (r : Report) : s.report r = State.requestReport { s with pub.transmission := none } t q r := by
  simp [State.report, ht, hsource, hq]

/-- The head removed and counted, with an END outcome's HELD. -/
theorem State.headGone_holdIf (c : Counters) (ev : BitVec 11) (held : Bool) :
    (s.headGone rest c ev false).holdIf held = s.headGone rest c ev held := by
  rw [State.holdIf_eq]
  simp [State.headGone]

theorem State.resend_of_report (hq : s.pub.queue = q :: rest) :
    State.resend { s with pub.transmission := none } = s.headKept q rest s.port.counters 0 := by
  simp [State.resend, hq, State.headKept]

/-- A failed attempt below the fourth keeps the request, the fourth drops it (R123, R127). -/
theorem State.failedAttempt_of_report {u : State} (hu : u = { s with pub.transmission := none, port.counters := u.port.counters })
    (hq : s.pub.queue = q :: rest) :
    (q.attempts < 3 → u.failedAttempt q = s.headKept q rest u.port.counters (q.attempts + 1)) ∧
    (q.attempts = 3 → u.failedAttempt q = s.headGone rest
      { u.port.counters with dropped := saturate u.port.counters.dropped } (s.port.events ||| 0x010) (decide (q.body = .endFrame))) := by
  have huq : u.pub.queue = q :: rest := by
    rw [hu]
    exact hq
  have hcap : Config.maxAttempts = 4 := rfl
  constructor
  · intro h
    have hattempt : q.attempts + 1 < Config.maxAttempts := by omega
    rw [State.failedAttempt, if_pos hattempt, State.attempt, huq, hu]
    rfl
  · intro h
    have hattempt : ¬ q.attempts + 1 < Config.maxAttempts := by omega
    rw [State.failedAttempt, if_neg hattempt, ← State.headGone_holdIf, State.removeHead_eq huq, hu]
    congr 1
    cases hspace : s.pub.spaceWanted
    · simp [State.headGone, hspace, State.count, State.raise, Counters.bump, Event.bit]
    · have hevents : s.port.events ||| 0x020 ||| 0x010 = s.port.events ||| 0x010 ||| 0x020 := by
        rw [BitVec.or_assoc, BitVec.or_assoc, BitVec.or_comm (0x020 : BitVec 11)]
      simp only [State.headGone, hspace, State.count, State.raise, Counters.bump, Event.bit, if_true, hevents, Bool.or_false]

end Request

/-! ### The arbiter (R119–R121) -/

theorem Publisher.sendingRequest_iff (p : Publisher) : p.sendingRequest = true ↔ ∃ t, p.transmission = some t ∧ t.source = .request := by
  cases h : p.transmission <;> simp [Publisher.sendingRequest, h]

/-- At every moment but one when a transmission can begin, the arbiter hands over nothing (R120). -/
theorem State.arbitrate_of_busy {s : State} (h : ¬ ((s.link.view = .idle ∨ s.link.view = .opening) ∧ s.pub.transmission = none)) :
    s.arbitrate = s := if_neg h

theorem State.arbitrate_of_candidate {s : State} (hview : s.link.view = .idle ∨ s.link.view = .opening)
    (hfree : s.pub.transmission = none) {t : Transmission} (ht : s.candidate = some t) :
    s.arbitrate = { s with pub.transmission := some t, link.view := .opening, link.drive := .start } := by
  simp only [State.arbitrate, if_pos (And.intro hview hfree), ht]

theorem State.arbitrate_of_no_candidate {s : State} (h : s.candidate = none) : s.arbitrate = s := by
  unfold State.arbitrate
  split
  · rw [h]
  · rfl

theorem State.candidate_of_member {s : State} {r : Record} {tag : Tag} (hr : s.record = some r) (hstation : s.join.station = .member)
    (htag : s.barrier.fillTag = some tag) :
    (s.pub.welcomePending = true → s.candidate = some (newTransmission .welcome (welcomeBytes r.station tag) (some tag))) ∧
    (s.pub.welcomePending = false → s.engine ≠ .contending → s.candidate = none) ∧
    (∀ q rest, s.pub.welcomePending = false → s.engine = .contending → s.pub.queue = q :: rest →
      s.candidate = some (newTransmission .request (withCheck (q.body.bytes r.station tag (s.pub.payloadOf q.body)))
        (if q.body.kind.tagged then some tag else none))) := by
  refine ⟨fun h => ?_, fun h he => ?_, fun q rest h he hq => ?_⟩
  · simp [State.candidate, hr, hstation, htag, h]
  · simp [State.candidate, hr, hstation, htag, h, he]
  · simp [State.candidate, hr, hstation, htag, h, he, hq]

/-- Of the bursts the station queues, only a WITHDRAW carries no tag (R33). -/
theorem RequestBody.kind_tagged (body : RequestBody) : body.kind.tagged = !decide (body = .withdraw) := by
  cases body <;> rfl

end Sys2Proof.Machine
end

section
/-! The statements on the outcomes of a transmission and the arbiter: O21, O22 and O23. -/

namespace Sys2Proof.Proofs

open Sys2Proof.Machine Sys2Proof.Safety

/-- Settles O21: the head leaves, or stays with its attempts, by the report and the two marks. -/
theorem requestOutcomes : Obligations.RequestOutcomes := by
  intro s t q rest ht hsource hq
  have hreport := State.report_request ht hsource hq
  have hremoved := State.removeHead_of_report hq
  have hcounted (k : Counter) (held : Bool) :
      ((State.removeHead { s with pub.transmission := none }).count k).holdIf held =
        s.headGone rest (s.port.counters.bump k) s.port.events held := by
    rw [hremoved, ← State.headGone_holdIf (s := s) (s.port.counters.bump k)]
    rfl
  have hheld (held : Bool) : (State.removeHead { s with pub.transmission := none }).holdIf held =
      s.headGone rest s.port.counters s.port.events held := by rw [hremoved, State.headGone_holdIf]
  have hfailed := State.failedAttempt_of_report (s := s) (u := { s with pub.transmission := none }) rfl hq
  have hrefused := State.failedAttempt_of_report (s := s) (u := State.count { s with pub.transmission := none } .refusedTx) rfl hq
  refine ⟨?_, fun hovertaken r hr => ?_, fun hovertaken => ?_⟩
  · rw [hreport]
    cases hflush : t.flush
    · simp [State.requestReport, hflush]
    · simp only [State.requestReport, hflush, if_true]
      exact hremoved
  · have hmark : (t.edgeSeen && decide (q.body ≠ .withdraw)) = true := by simpa using hovertaken
    have heq : s.report r = if t.flush || decide (q.body = .endFrame) then State.removeHead { s with pub.transmission := none }
        else State.resend { s with pub.transmission := none } := by
      rw [hreport]
      rcases hr with rfl | rfl | rfl <;> simp only [State.requestReport, hmark, if_true]
    rw [heq, hremoved, State.resend_of_report hq]
    simp only [Bool.or_eq_true, decide_eq_true_eq]
    rfl
  · have hmark : (t.edgeSeen && decide (q.body ≠ .withdraw)) = false := by
      rw [Bool.eq_false_iff]
      simpa using hovertaken
    refine ⟨?_, fun hflush => ⟨?_, ?_⟩, fun hflush hattempts => ⟨?_, ?_⟩, fun hflush hattempts => ⟨?_, ?_⟩⟩ <;> rw [hreport] <;>
      simp only [State.requestReport, hmark, Bool.false_eq_true, if_false]
    · exact hcounted .sent _
    · rw [if_pos hflush]
      exact hcounted .refusedTx _
    · rw [if_pos hflush]
      exact hheld _
    · rw [if_neg (by simp [hflush])]
      exact hrefused.1 hattempts
    · rw [if_neg (by simp [hflush])]
      exact hfailed.1 hattempts
    · rw [if_neg (by simp [hflush])]
      exact hrefused.2 hattempts
    · rw [if_neg (by simp [hflush])]
      exact hfailed.2 hattempts

/-- Settles O22: the reports of a JOIN, with the entry to OBSERVER at the last unit of the budget, and those of a WELCOME. -/
theorem joinAndWelcomeOutcomes : Obligations.JoinAndWelcomeOutcomes := by
  refine ⟨fun s t ht hsource hstation hpending hbudget => ?_, fun s t ht hsource => ?_⟩
  · have hreport (r : Report) : s.report r = State.joinReport { s with pub.transmission := none } r := by
      simp [State.report, ht, hsource]
    have hspent (u : State) (hu : 2 ≤ u.join.budget) : u.joinFailed = { u with join.budget := u.join.budget - 1 } := by
      have hleft : ¬ u.join.budget - 1 = 0 := by omega
      exact if_neg hleft
    have hlast (u : State) (hu : u.join.budget = 1) :
        u.joinFailed = State.enterObserver { u with join.budget := u.join.budget - 1 } .refused := by
      have hleft : u.join.budget - 1 = 0 := by omega
      exact if_pos hleft
    refine ⟨hreport .lost, hreport .delivered, fun r hr => ⟨fun htwo => ?_, fun hone => ?_⟩⟩
    · rw [hreport]
      rcases hr with rfl | rfl
      · exact hspent (State.count { s with pub.transmission := none } .refusedTx) htwo
      · exact hspent { s with pub.transmission := none } htwo
    · rw [hreport]
      rcases hr with rfl | rfl
      · refine (hlast (State.count { s with pub.transmission := none } .refusedTx) hone).trans ?_
        simp [State.enterObserver, State.cut, State.count, Barrier.toObserver, Barrier.release, hstation, hone, State.raise,
          Publisher.emptied, Counters.bump, Event.bit]
      · refine (hlast { s with pub.transmission := none } hone).trans ?_
        simp [State.enterObserver, State.cut, Barrier.toObserver, Barrier.release, hstation, hone, State.raise, Publisher.emptied,
          Event.bit]
  · have hreport (r : Report) : s.report r = State.welcomeReport { s with pub.transmission := none } r := by
      simp [State.report, ht, hsource]
    exact ⟨hreport .lost, hreport .bitError, hreport .delivered, hreport .refused⟩

/-- Settles O23: the engine by its table, and the candidate by the station state, the tag and the queue. -/
theorem arbiterRanksTheCandidates : Obligations.ArbiterRanksTheCandidates := by
  refine ⟨fun s => ⟨fun h => if_pos h, fun hstation htag => ?_⟩, fun s r hr => ⟨fun hview hfree => ?_, fun h => ?_⟩⟩
  · have hengine : s.engine = if s.pub.sendingRequest then .sending else if s.pub.held then .held
        else if s.pub.queue = [] then .idle else .contending := if_neg (by simp [hstation, htag])
    rw [hengine]
    simp only [← Publisher.sendingRequest_iff]
    refine ⟨fun h => if_pos h, fun h hheld => ?_, fun h hheld hq => ?_, fun h hheld hq => ?_⟩
    · rw [if_neg h, if_pos hheld]
    · rw [if_neg h, if_neg (by simp [hheld]), if_pos hq]
    · rw [if_neg h, if_neg (by simp [hheld]), if_neg hq]
  · have hidle : s.pub.sendingRequest = false := by simp [Publisher.sendingRequest, hfree]
    refine ⟨fun d hstation hpending hd => ?_, fun tag hstation htag hwelcome => ?_,
      fun tag q rest hstation htag hwelcome hheld hq => ?_, fun h h' => ?_, fun hstation hwelcome h => ?_, fun hstation htag => ?_⟩
    · have hcandidate : s.candidate = some (newTransmission .join (joinBytes r.station d) none) := by
        simp [State.candidate, hr, hstation, hpending, hd]
      rw [State.arbitrate_of_candidate hview hfree hcandidate]
      simp only [joinBytes, bytes16_eq_highLow]
      rfl
    · exact State.arbitrate_of_candidate hview hfree ((State.candidate_of_member hr hstation htag).1 hwelcome)
    · have hengine : s.engine = .contending := by simp [State.engine, hstation, htag, hidle, hheld, hq]
      rw [State.arbitrate_of_candidate hview hfree ((State.candidate_of_member hr hstation htag).2.2 q rest hwelcome hengine hq),
        RequestBody.kind_tagged]
      by_cases hbody : q.body = .withdraw <;> simp [hbody, newTransmission]
    · exact State.arbitrate_of_no_candidate (by simp [State.candidate, hr, h, h'])
    · refine State.arbitrate_of_no_candidate ?_
      cases htag : s.barrier.fillTag with
      | none => simp [State.candidate, hr, hstation, htag]
      | some tag =>
        refine (State.candidate_of_member hr hstation htag).2.1 hwelcome ?_
        rcases h with h | h
        · simp [State.engine, hstation, htag, hidle, h]
        · cases hheld : s.pub.held <;> simp [State.engine, hstation, htag, hidle, h, hheld]
    · exact State.arbitrate_of_no_candidate (by simp [State.candidate, hr, hstation, htag])
  · refine State.arbitrate_of_busy ?_
    rintro ⟨hview, hfree⟩
    rcases h with h | h | h | h
    · simp [h] at hview
    · simp [h] at hview
    · simp [h] at hview
    · exact h hfree

end Sys2Proof.Proofs
end

section
/-! SUPPORT. The station's own bursts, read back by the judgement of form. -/

namespace Sys2Proof.Machine

/-! ### Fields packed and read back (R33–R35) -/

theorem kindIn_arbitrationField (k : Kind) (n : StationNumber) : kindIn (arbitrationField k n) = k := by
  revert n
  cases k <;> decide

theorem senderIn_arbitrationField (k : Kind) (n : StationNumber) : senderIn (arbitrationField k n) = n := by
  revert n
  cases k <;> decide

theorem tagIn_tagByte (tag : Tag) (bits : BitVec 4) : tagIn (tagByte tag bits) = tag := by
  revert tag bits
  decide

theorem tagByte_low (tag : Tag) (bits : BitVec 4) : (tagByte tag bits).extractLsb' 0 4 = bits := by
  revert tag bits
  decide

/-- The four kind-specific bits in their places. -/
theorem tagByte_bits4 (tag : Tag) (b3 b2 b1 b0 : Bool) :
    (tagByte tag (bits4 b3 b2 b1 b0)).getLsbD 3 = b3 ∧ (tagByte tag (bits4 b3 b2 b1 b0)).getLsbD 2 = b2 ∧
    (tagByte tag (bits4 b3 b2 b1 b0)).getLsbD 0 = b0 ∧
    (tagByte tag (bits4 b3 b2 b1 b0)).extractLsb' 1 2 = BitVec.ofBool b2 ++ BitVec.ofBool b1 ∧
    (tagByte tag (bits4 b3 b2 b1 b0)).extractLsb' 0 2 = BitVec.ofBool b1 ++ BitVec.ofBool b0 := by
  revert tag b3 b2 b1 b0
  decide

/-- Three bytes put together again. -/
theorem append_bytes24 (v : BitVec 24) : v.extractLsb' 16 8 ++ v.extractLsb' 8 8 ++ v.extractLsb' 0 8 = v := by
  refine BitVec.eq_of_getLsbD_eq fun i hi => ?_
  simp only [BitVec.getLsbD_append, BitVec.getLsbD_extractLsb']
  by_cases h : i < 8
  · simp [h]
  · by_cases h' : i < 16
    · simp [h, show i - 8 < 8 by omega, show 8 + (i - 8) = i by omega]
    · simp [h, show ¬ i - 8 < 8 by omega, show i - 8 - 8 < 8 by omega, show 16 + (i - 8 - 8) = i by omega]

theorem append_bytes16 (v : BitVec 16) : v.extractLsb' 8 8 ++ v.extractLsb' 0 8 = v := by
  refine BitVec.eq_of_getLsbD_eq fun i hi => ?_
  simp only [BitVec.getLsbD_append, BitVec.getLsbD_extractLsb']
  by_cases h : i < 8
  · simp [h]
  · simp [h, show i - 8 < 8 by omega, show 8 + (i - 8) = i by omega]

/-- The two fields of `pack12` (R35). -/
theorem pack12_fields {a b : Nat} (ha : a < 4096) (hb : b < 4096) :
    (((BitVec.ofNat 12 a ++ BitVec.ofNat 12 b : BitVec 24)).extractLsb' 12 12).toNat = a ∧
    (((BitVec.ofNat 12 a ++ BitVec.ofNat 12 b : BitVec 24)).extractLsb' 0 12).toNat = b := by
  have hhigh : (BitVec.ofNat 12 a ++ BitVec.ofNat 12 b : BitVec 24).toNat = a * 4096 + b := by
    rw [BitVec.toNat_append, BitVec.toNat_ofNat, BitVec.toNat_ofNat, Nat.mod_eq_of_lt (show a < 2 ^ 12 from ha),
      Nat.mod_eq_of_lt (show b < 2 ^ 12 from hb), ← Nat.shiftLeft_add_eq_or_of_lt (show b < 2 ^ 12 from hb), Nat.shiftLeft_eq]
  constructor
  · rw [BitVec.extractLsb'_toNat, hhigh, Nat.shiftRight_eq_div_pow]
    omega
  · rw [BitVec.extractLsb'_toNat, hhigh, Nat.shiftRight_zero]
    omega

/-- The size of a STRIPE, with its three reserved bits clear (R35). -/
theorem packStripeSize_fields {w h : Nat} (hw : 1 ≤ w) (hw' : w ≤ 512) (hh : 1 ≤ h) (hh' : h ≤ 16) :
    let v : BitVec 16 := BitVec.ofNat 9 (w - 1) ++ BitVec.ofNat 4 (h - 1) ++ (0 : BitVec 3)
    stripeSize (v.extractLsb' 8 8) (v.extractLsb' 0 8) = (w, h) ∧ (v.extractLsb' 0 8).extractLsb' 0 3 = 0 := by
  intro v
  have hv : v.toNat = (w - 1) * 128 + (h - 1) * 8 := by
    show (BitVec.ofNat 9 (w - 1) ++ BitVec.ofNat 4 (h - 1) ++ (0 : BitVec 3)).toNat = _
    rw [BitVec.toNat_append, BitVec.toNat_append, BitVec.toNat_ofNat, BitVec.toNat_ofNat,
      Nat.mod_eq_of_lt (show w - 1 < 2 ^ 9 by omega), Nat.mod_eq_of_lt (show h - 1 < 2 ^ 4 by omega),
      ← Nat.shiftLeft_add_eq_or_of_lt (show h - 1 < 2 ^ 4 by omega),
      ← Nat.shiftLeft_add_eq_or_of_lt (show (0 : BitVec 3).toNat < 2 ^ 3 by decide), Nat.shiftLeft_eq, Nat.shiftLeft_eq]
    show ((w - 1) * 16 + (h - 1)) * 8 + 0 = _
    omega
  constructor
  · unfold stripeSize
    rw [append_bytes16]
    simp only [BitVec.extractLsb'_toNat, hv, Nat.shiftRight_eq_div_pow]
    congr 1 <;> omega
  · refine BitVec.eq_of_toNat_eq ?_
    simp only [BitVec.extractLsb'_toNat, hv, Nat.shiftRight_zero]
    show _ = 0
    omega

/-! ### Payloads read back -/

theorem componentByte_setWidth (c : BitVec 6) : (componentByte c).setWidth 6 = c := by
  revert c
  decide

theorem colorOf_colorBytes (c : Color) : colorOf (componentByte c.red) (componentByte c.green) (componentByte c.blue) = c := by
  simp only [colorOf, componentByte_setWidth]

/-- A component takes six bits of its byte. -/
theorem componentByte_le (c : BitVec 6) : (componentByte c).toNat ≤ 63 := by
  revert c
  decide

theorem colorsOf_flatMap (cs : List Color) : colorsOf (cs.flatMap colorBytes) = cs := by
  induction cs with
  | nil => rfl
  | cons c cs ih =>
    show colorOf _ _ _ :: colorsOf (cs.flatMap colorBytes) = c :: cs
    rw [ih, colorOf_colorBytes]

theorem componentsFit_flatMap (cs : List Color) : componentsFit (cs.flatMap colorBytes) = true := by
  rw [componentsFit_iff]
  intro b hb
  obtain ⟨c, -, hc⟩ := List.mem_flatMap.1 hb
  simp only [colorBytes, List.mem_cons, List.not_mem_nil, or_false] at hc
  rcases hc with rfl | rfl | rfl <;> exact componentByte_le _

/-- A pixel is one of a format. -/
def RawPixel.has (f : Format) : RawPixel → Prop
  | .idx8 _ => f = .idx8
  | .rgb565 _ => f = .rgb565
  | .rgb666 _ => f = .rgb666

theorem exists_map_of_forall {α β : Type} (g : α → β) {ys : List β} (h : ∀ y ∈ ys, ∃ x, g x = y) : ∃ xs : List α, ys = xs.map g := by
  obtain ⟨xs, hxs⟩ := (Set.ext_iff.1 (Set.range_list_map g) ys).2 h
  exact ⟨xs, hxs.symm⟩

/-- Pixels of one format are its indices, its words or its colours. -/
theorem payload_cases {f : Format} {payload : List RawPixel} (h : ∀ p ∈ payload, p.has f) :
    (f = .idx8 ∧ ∃ xs : List Byte, payload = xs.map .idx8) ∨
    (f = .rgb565 ∧ ∃ xs : List (BitVec 16), payload = xs.map .rgb565) ∨
    (f = .rgb666 ∧ ∃ xs : List Color, payload = xs.map .rgb666) := by
  cases f with
  | idx8 =>
    refine .inl ⟨rfl, exists_map_of_forall _ fun p hp => ?_⟩
    have hhas := h p hp
    cases p with
    | idx8 i => exact ⟨i, rfl⟩
    | rgb565 | rgb666 => cases hhas
  | rgb565 =>
    refine .inr (.inl ⟨rfl, exists_map_of_forall _ fun p hp => ?_⟩)
    have hhas := h p hp
    cases p with
    | rgb565 v => exact ⟨v, rfl⟩
    | idx8 | rgb666 => cases hhas
  | rgb666 =>
    refine .inr (.inr ⟨rfl, exists_map_of_forall _ fun p hp => ?_⟩)
    have hhas := h p hp
    cases p with
    | rgb666 c => exact ⟨c, rfl⟩
    | idx8 | rgb565 => cases hhas

theorem rgb565Pixels_flatMap (vs : List (BitVec 16)) : rgb565Pixels (vs.flatMap bytes16) = vs.map .rgb565 := by
  induction vs with
  | nil => rfl
  | cons v vs ih =>
    show RawPixel.rgb565 (v.extractLsb' 8 8 ++ v.extractLsb' 0 8) :: rgb565Pixels (vs.flatMap bytes16) = .rgb565 v :: vs.map .rgb565
    rw [ih, append_bytes16]

/-- A payload's bytes carry its pixels, and nothing else (R35, R45). -/
theorem payloadPixels_flatMap {f : Format} {payload : List RawPixel} (h : ∀ p ∈ payload, p.has f) :
    payloadPixels f (payload.flatMap RawPixel.bytes) = payload ∧
    (payload.flatMap RawPixel.bytes).length = payload.length * f.bytesPerPixel ∧
    (f = .rgb666 → componentsFit (payload.flatMap RawPixel.bytes) = true) := by
  rcases payload_cases h with ⟨rfl, bs, rfl⟩ | ⟨rfl, vs, rfl⟩ | ⟨rfl, cs, rfl⟩
  · have hbytes : (bs.map RawPixel.idx8).flatMap RawPixel.bytes = bs := by
      rw [List.flatMap_map]
      exact List.flatMap_singleton' bs
    rw [hbytes]
    exact ⟨rfl, by simp [Format.bytesPerPixel], by simp⟩
  · have hbytes : (vs.map RawPixel.rgb565).flatMap RawPixel.bytes = vs.flatMap bytes16 := List.flatMap_map ..
    rw [hbytes]
    refine ⟨rgb565Pixels_flatMap vs, ?_, by simp⟩
    simp [List.length_flatMap, bytes16, Format.bytesPerPixel]
  · have hbytes : (cs.map RawPixel.rgb666).flatMap RawPixel.bytes = cs.flatMap colorBytes := List.flatMap_map ..
    rw [hbytes]
    refine ⟨?_, ?_, fun _ => componentsFit_flatMap cs⟩
    · show rgb666Pixels _ = _
      rw [rgb666Pixels_eq, colorsOf_flatMap]
    · simp [List.length_flatMap, colorBytes, Format.bytesPerPixel]

/-! ### The bursts (R35, R36, R41–R46) -/

section Burst
variable (n : StationNumber) (tag : Tag) (cw ch : Nat)

/-- The first byte of a burst names its sender and its kind. -/
theorem head_fields (k : Kind) (bs : List Byte) :
    senderIn (byteAt (arbitrationField k n :: bs) 0) = n ∧ kindIn (byteAt (arbitrationField k n :: bs) 0) = k :=
  ⟨senderIn_arbitrationField k n, kindIn_arbitrationField k n⟩

/-- The length of a burst whose first byte fixes it (R36). -/
theorem fixedLength_of_head {bs : List Byte} (hbs : bs.length ≠ 0) (hk : kindIn (byteAt bs 0) ≠ .palette ∧ kindIn (byteAt bs 0) ≠ .stripe) :
    fixedLength bs = lengthAtByte0 (byteAt bs 0) := by
  unfold fixedLength
  rw [if_neg hbs]
  split
  · exact absurd ‹_› hk.1
  · exact absurd ‹_› hk.2
  · rfl

theorem form_of_plain : formOfPlain (tagByte tag 0) .endFrame = some .endFrame := if_pos (tagByte_low tag 0)

theorem form_of_look (l : Look) :
    formOfLook (tagByte tag (bits4 l.overlayVisible l.invert false false)) (l.dim.setWidth 8) = some (.look l) := by
  obtain ⟨h3, h2, -, -, hlow⟩ := tagByte_bits4 tag l.overlayVisible l.invert false false
  have hdim : (l.dim.setWidth 8).toNat ≤ 15 := by
    rw [BitVec.toNat_setWidth_of_le (by decide)]
    exact Nat.lt_succ_iff.1 l.dim.isLt
  have hback : (l.dim.setWidth 8).setWidth 4 = l.dim := by
    rw [BitVec.setWidth_setWidth_of_le _ (by decide), BitVec.setWidth_eq]
  unfold formOfLook
  rw [if_pos ⟨hlow, hdim⟩, h3, h2, hback]

theorem form_of_palette {first : Nat} {cs : List Color} (h1 : 1 ≤ cs.length) (h16 : cs.length ≤ 16) (h : first + cs.length ≤ 256) :
    let bs := [arbitrationField .palette n, tagByte tag (BitVec.ofNat 4 (cs.length - 1)), BitVec.ofNat 8 first] ++
      cs.flatMap colorBytes
    fixedLength bs = some (bs.length - 2) ∧ formOf cw ch bs = some (.content (.palette first cs)) := by
  intro bs
  have hcount : ((tagByte tag (BitVec.ofNat 4 (cs.length - 1))).extractLsb' 0 4).toNat + 1 = cs.length := by
    rw [tagByte_low, BitVec.toNat_ofNat]
    omega
  have hfirst : (BitVec.ofNat 8 first).toNat = first := by
    rw [BitVec.toNat_ofNat]
    omega
  have hlength : (cs.flatMap colorBytes).length = 3 * cs.length := by
    simp [List.length_flatMap, colorBytes]
    omega
  have hbs : bs.length = 3 + 3 * cs.length := by
    show (cs.flatMap colorBytes).length + 1 + 1 + 1 = _
    omega
  have hkind : kindIn (byteAt bs 0) = .palette := kindIn_arbitrationField _ n
  have hlow : ((byteAt bs 1).extractLsb' 0 4).toNat + 1 = cs.length := hcount
  have hindex : natAt bs 2 = first := hfirst
  have hcolors : (bs.drop 3).take (3 * cs.length) = cs.flatMap colorBytes := by
    show (cs.flatMap colorBytes).take _ = _
    rw [← hlength, List.take_length]
  constructor
  · simp only [fixedLength, hkind, hlow, hbs]
    rw [if_neg (by omega), if_neg (by omega)]
    congr 1
    omega
  · simp only [formOf, hkind, formOfPalette, hlow, hindex, hcolors, colorsOf_flatMap, componentsFit_flatMap]
    rw [if_pos ⟨h, trivial⟩]

theorem form_of_fill {q : Rect} (hfits : q.fits cw ch = true) (hcw : cw ≤ 4096) (hch : ch ≤ 4096) (hw : 1 ≤ q.width)
    (hh : 1 ≤ q.height) (l : Layer) (c : Color) (transparent : Bool) :
    let bs := [arbitrationField .fill n, tagByte tag (bits4 (layerBit l) transparent false false)] ++ pack12 q.x q.y ++
      pack12 (q.width - 1) (q.height - 1) ++ colorBytes c
    formOf cw ch bs = some (.content (.fill l q c transparent)) := by
  intro bs
  obtain ⟨hx, hy⟩ : q.x + q.width ≤ cw ∧ q.y + q.height ≤ ch := by simpa [Rect.fits] using hfits
  obtain ⟨h3, h2, -, -, hlow⟩ := tagByte_bits4 tag (layerBit l) transparent false false
  obtain ⟨hox, hoy⟩ := pack12_fields (show q.x < 4096 by omega) (show q.y < 4096 by omega)
  obtain ⟨hsw, hsh⟩ := pack12_fields (show q.width - 1 < 4096 by omega) (show q.height - 1 < 4096 by omega)
  have hkind : kindIn (byteAt bs 0) = .fill := kindIn_arbitrationField _ n
  have horigin : byteAt bs 2 ++ byteAt bs 3 ++ byteAt bs 4 = BitVec.ofNat 12 q.x ++ BitVec.ofNat 12 q.y := append_bytes24 _
  have hsize : byteAt bs 5 ++ byteAt bs 6 ++ byteAt bs 7 = BitVec.ofNat 12 (q.width - 1) ++ BitVec.ofNat 12 (q.height - 1) :=
    append_bytes24 _
  have hrect : ({ x := q.x, y := q.y, width := q.width - 1 + 1, height := q.height - 1 + 1 } : Rect) = q := by
    rw [Nat.sub_add_cancel hw, Nat.sub_add_cancel hh]
  have hcolor : colorOf (byteAt bs 8) (byteAt bs 9) (byteAt bs 10) = c := colorOf_colorBytes c
  have hfit : componentsFit [byteAt bs 8, byteAt bs 9, byteAt bs 10] = true := by
    have hone := componentsFit_flatMap [c]
    rwa [List.flatMap_singleton] at hone
  have hbits : byteAt bs 1 = tagByte tag (bits4 (layerBit l) transparent false false) := rfl
  simp only [formOf, hkind, formOfFill, horigin, hsize, hox, hoy, hsw, hsh, hrect, hcolor, hbits, h3, h2]
  rw [if_pos ⟨hlow, hfits, hfit⟩]
  cases l <;> rfl

theorem form_of_stripe {q : Rect} (hfits : q.fits cw ch = true) (hcw : cw ≤ 4096) (hch : ch ≤ 4096) (hw : 1 ≤ q.width)
    (hw' : q.width ≤ 512) (hh : 1 ≤ q.height) (hh' : q.height ≤ 16) (hsize : q.width * q.height ≤ 512) (l : Layer) {f : Format}
    {payload : List RawPixel} (hlength : payload.length = q.width * q.height) (hpixels : ∀ p ∈ payload, p.has f) :
    let bs := [arbitrationField .stripe n,
        tagByte tag (bits4 (layerBit l) (f.code.getLsbD 1) (f.code.getLsbD 0) false)] ++
      pack12 q.x q.y ++ packStripeSize q.width q.height ++ payload.flatMap RawPixel.bytes
    fixedLength bs = some (bs.length - 2) ∧ formOf cw ch bs = some (.content (.stripe l f q payload)) := by
  intro bs
  obtain ⟨hx, hy⟩ : q.x + q.width ≤ cw ∧ q.y + q.height ≤ ch := by simpa [Rect.fits] using hfits
  obtain ⟨h3, -, h0, hformat, -⟩ := tagByte_bits4 tag (layerBit l) (f.code.getLsbD 1) (f.code.getLsbD 0) false
  obtain ⟨hox, hoy⟩ := pack12_fields (show q.x < 4096 by omega) (show q.y < 4096 by omega)
  obtain ⟨hstripe, hreserved⟩ := packStripeSize_fields hw hw' hh hh'
  obtain ⟨hread, hbytes, hfit⟩ := payloadPixels_flatMap hpixels
  have hkind : kindIn (byteAt bs 0) = .stripe := kindIn_arbitrationField _ n
  have horigin : byteAt bs 2 ++ byteAt bs 3 ++ byteAt bs 4 = BitVec.ofNat 12 q.x ++ BitVec.ofNat 12 q.y := append_bytes24 _
  have hdims : stripeSize (byteAt bs 5) (byteAt bs 6) = (q.width, q.height) := hstripe
  have hlow : (byteAt bs 6).extractLsb' 0 3 = 0 := hreserved
  have hcode : ((byteAt bs 1).extractLsb' 1 2).toNat = f.code.toNat := by
    refine (congrArg BitVec.toNat hformat).trans ?_
    cases f <;> rfl
  have hof : formatOf f.code.toNat = some f := by cases f <;> rfl
  have hbs : bs.length = 7 + q.width * q.height * f.bytesPerPixel := by
    rw [← hlength, ← hbytes]
    show (payload.flatMap RawPixel.bytes).length + 1 + 1 + 1 + 1 + 1 + 1 + 1 = _
    omega
  have hdrop : (bs.drop 7).take (q.width * q.height * f.bytesPerPixel) = payload.flatMap RawPixel.bytes := by
    rw [← hlength, ← hbytes]
    exact List.take_length
  constructor
  · simp only [fixedLength, hkind, hdims, formatBytes, hcode, hof, hbs]
    rw [if_neg (by omega), if_neg (by omega)]
    congr 1
    omega
  · simp only [formOf, hkind, formOfStripe, horigin, hdims, hox, hoy, hcode, hof, hdrop, hread]
    rw [if_pos ⟨h0, hlow, hsize, hfits, hfit⟩, show (byteAt bs 1).getLsbD 3 = layerBit l from h3]
    cases l <;> rfl

end Burst

end Sys2Proof.Machine
end

section
/-! The statement on the bursts that the station queues: O24. -/

namespace Sys2Proof.Proofs

open Sys2Proof.Machine Sys2Proof.Safety

/-- Settles O24: the fields that the bytes pack are read back, kind by kind. -/
theorem queuedRequestsAreWellFormedBursts : Obligations.QueuedRequestsAreWellFormedBursts := by
  intro n tag cw ch
  have hlength (k : Kind) : lengthAtByte0 (arbitrationField k n) = lengthAtByte0 (arbitrationField k 0) := by
    simp only [lengthAtByte0, kindIn_arbitrationField]
  have hhead (k : Kind) {rest : List Byte} {m : Nat} (hm : lengthAtByte0 (arbitrationField k n) = some m)
      (hk : k ≠ .palette ∧ k ≠ .stripe) : fixedLength (arbitrationField k n :: rest) = some m := by
    have hkind := kindIn_arbitrationField k n
    exact (fixedLength_of_head (bs := arbitrationField k n :: rest) (by simp) (by rwa [(head_fields n k rest).2])).trans hm
  refine ⟨fun l f q start payload hfits hcw hch hw hw' hh hh' hsize hlength hpixels => ?_,
    fun l q c transparent hfits hcw hch hw hh => ?_, fun first start cs h1 h16 h => ?_, fun l => ?_, ?_, ?_⟩
  · have hhas : ∀ p ∈ payload, p.has f := by
      intro p hp
      have hmatch := hpixels p hp
      cases f <;> cases p <;> first | rfl | exact hmatch.elim
    obtain ⟨hfixed, hform⟩ := form_of_stripe n tag cw ch hfits hcw hch hw hw' hh hh' hsize l hlength hhas
    obtain ⟨hsender, hkind⟩ := head_fields n .stripe _
    exact ⟨hfixed, hsender, hkind, tagIn_tagByte tag _, hform⟩
  · obtain ⟨hsender, hkind⟩ := head_fields n .fill _
    exact ⟨hhead .fill (hlength .fill) ⟨by simp, by simp⟩, hsender, hkind, tagIn_tagByte tag _,
      form_of_fill n tag cw ch hfits hcw hch hw hh l c transparent⟩
  · have hpayload : (cs.map RawPixel.rgb666).flatMap RawPixel.bytes = cs.flatMap colorBytes := List.flatMap_map ..
    obtain ⟨hfixed, hform⟩ := form_of_palette n tag cw ch h1 h16 h
    obtain ⟨hsender, hkind⟩ := head_fields n .palette _
    simp only [RequestBody.bytes, hpayload]
    exact ⟨hfixed, hsender, hkind, tagIn_tagByte tag _, hform⟩
  · obtain ⟨hsender, hkind⟩ := head_fields n .look _
    refine ⟨hhead .look (hlength .look) ⟨by simp, by simp⟩, hsender, hkind, tagIn_tagByte tag _, ?_⟩
    simp only [RequestBody.bytes, formOf, hkind]
    exact form_of_look tag l
  · obtain ⟨hsender, hkind⟩ := head_fields n .endFrame _
    refine ⟨hhead .endFrame (hlength .endFrame) ⟨by simp, by simp⟩, hsender, hkind, tagIn_tagByte tag _, ?_⟩
    simp only [RequestBody.bytes, formOf, hkind]
    exact form_of_plain tag
  · obtain ⟨hsender, hkind⟩ := head_fields n .withdraw _
    refine ⟨hhead .withdraw (hlength .withdraw) ⟨by simp, by simp⟩, hsender, hkind, ?_⟩
    simp only [RequestBody.bytes, formOf, hkind]
    rfl

end Sys2Proof.Proofs
end

section
/-! SUPPORT. The Link Unit's bits: the symbols, one bit taken in, a whole burst taken in bit by bit, and the transmitter that stops. -/

namespace Sys2Proof.Machine

open Sys2Proof.Safety

/-! ### One bit (R21, R36) -/

theorem Level.bit_eq (l : Level) : l.bit = decide (l = .high) := by cases l <;> rfl

/-- A bit shifted in below the bits gathered. -/
theorem shiftIn_eq (v : Byte) (b : Bool) : (v <<< 1) ||| (BitVec.ofBool b).setWidth 8 = BitVec.ofNat 8 (2 * v.toNat + if b then 1 else 0) := by
  revert v b
  decide

theorem Receiver.takeBit_of_lt {r : Receiver} (h : r.bitCount < 7) (b : Bool) :
    r.takeBit b = { r with shift := BitVec.ofNat 8 (2 * r.shift.toNat + if b then 1 else 0), bitCount := r.bitCount + 1 } := by
  simp only [Receiver.takeBit, if_pos h, shiftIn_eq]

theorem Receiver.takeBit_of_last {r : Receiver} (h : r.bitCount = 7) (b : Bool) :
    r.takeBit b = Receiver.takeByte { r with shift := 0, bitCount := 0 } (BitVec.ofNat 8 (2 * r.shift.toNat + if b then 1 else 0)) := by
  simp only [Receiver.takeBit, if_neg (show ¬ r.bitCount < 7 by omega), shiftIn_eq]

theorem State.takeBit_of_not_last {s : State} (h : s.rx.atLastBit = false) (b : Bool) :
    s.takeBit b = { s with link.bitOpen := false, rx := s.rx.takeBit b } := by
  simp only [State.takeBit, h, Bool.false_eq_true, if_false]

theorem State.ensureBit_of_open {s : State} (h : s.link.bitOpen = true) : s.ensureBit = s := if_pos h

theorem State.takingBits_of {s : State} (hview : s.link.view = .burst) (hslot : s.link.atSlot = false) : s.takingBits = true := by
  simp [State.takingBits, hview, hslot]

/-- An ordinary bit, read back good by a transmitter, is taken in (R21, R25). -/
theorem exec_bitSamplePoint_of_good {s : State} {l : Level} (hview : s.link.view = .burst) (hslot : s.link.atSlot = false)
    (hlast : s.rx.atLastBit = false) (hsending : s.sending = none ∨ s.sending = some l.bit) :
    exec (.bitSamplePoint l) s = .next (s.ensureBit.takeBit l.bit) :=
  if_pos ⟨State.takingBits_of hview hslot, hlast, hsending⟩

theorem exec_bitPeriodStart_of_burst {s : State} (hview : s.link.view = .burst) :
    exec .bitPeriodStart s = .next (if s.link.atSlot then s.ensureSlot else s.ensureBit) := by
  simp only [exec, execBitPeriodStart, hview]
  split <;> rfl

/-! ### The report of a transmission ends it -/

theorem State.removeHead_transmission (s : State) : s.removeHead.pub.transmission = s.pub.transmission := by
  cases hq : s.pub.queue with
  | nil => simp only [State.removeHead, hq]
  | cons q rest => rw [State.removeHead_eq hq]

theorem State.requestReport_transmission (s : State) (t : Transmission) (q : Request) (r : Report) :
    (s.requestReport t q r).pub.transmission = s.pub.transmission := by
  have hremoved := s.removeHead_transmission
  have hresend : s.resend.pub.transmission = s.pub.transmission := by
    unfold State.resend
    split <;> rfl
  have hhold (u : State) (b : Bool) : (u.holdIf b).pub.transmission = u.pub.transmission := by rw [State.holdIf_eq]
  have hovertaken (b : Bool) : (if b then s.removeHead else s.resend).pub.transmission = s.pub.transmission := by
    cases b
    · exact hresend
    · exact hremoved
  have hfailed (u : State) : (u.failedAttempt q).pub.transmission = u.pub.transmission := by
    unfold State.failedAttempt
    split
    · unfold State.attempt
      split <;> rfl
    · exact (hhold _ _).trans u.removeHead_transmission
  cases r with
  | lost =>
    simp only [State.requestReport]
    split
    · exact hremoved
    · rfl
  | delivered =>
    simp only [State.requestReport]
    split
    · exact hovertaken _
    · exact (hhold _ _).trans hremoved
  | refused =>
    simp only [State.requestReport]
    split
    · exact hovertaken _
    · split
      · exact (hhold _ _).trans hremoved
      · exact hfailed (s.count .refusedTx)
  | bitError =>
    simp only [State.requestReport]
    split
    · exact hovertaken _
    · split
      · exact (hhold _ _).trans hremoved
      · exact hfailed s

/-- Acting on a report empties the transmission record (R121). -/
theorem State.report_transmission (s : State) (r : Report) : (s.report r).pub.transmission = none := by
  have hfailed (u : State) (hu : u.pub.transmission = none) : u.joinFailed.pub.transmission = none := by
    unfold State.joinFailed
    dsimp only
    split
    · exact State.enterObserver_transmission _ _
    · exact hu
  rcases s.report_cases r with ⟨ht, heq⟩ | ⟨t, -, ⟨-, heq⟩ | ⟨-, heq⟩ | ⟨-, -, heq⟩ | ⟨q, rest, -, -, heq⟩⟩ <;> rw [heq]
  · exact ht
  · cases r with
    | lost | delivered => rfl
    | refused => exact hfailed (State.count { s with pub.transmission := none } .refusedTx) rfl
    | bitError => exact hfailed { s with pub.transmission := none } rfl
  · cases r <;> rfl
  · exact State.requestReport_transmission ..

theorem State.report_rx (s : State) (r : Report) : (s.report r).rx = s.rx := by
  obtain ⟨j, l, b, p, q, h⟩ := s.report_blocks r
  rw [h]

/-- A byte before the check is stored, as far as the buffer reaches, and folded into the check (R36). -/
theorem Receiver.takeByte_of_body {r : Receiver} (h : ∀ m, r.bodyLength = some m → r.received < 2 + m) (hroom : r.received < 1543)
    (b : Byte) :
    r.takeByte b = { r with body := r.body ++ [b], running := crcByte r.running b, received := r.received + 1,
                            bodyLength := r.bodyLength.or (fixedLength (r.body ++ [b])) } := by
  cases hm : r.bodyLength with
  | none => simp only [Receiver.takeByte, hm, Config.bufferBody, hroom, if_true, Option.none_or]
  | some m => simp only [Receiver.takeByte, hm, Config.bufferBody, hroom, decide_eq_true (h m hm), if_true, Option.some_or]

/-- A byte behind the body is a check byte (R36). -/
theorem Receiver.takeByte_of_check {r : Receiver} {m : Nat} (hm : r.bodyLength = some m) (h : ¬ r.received < 2 + m) (b : Byte) :
    r.takeByte b = { r with check := r.check ++ [b], received := r.received + 1 } := by
  simp only [Receiver.takeByte, hm, decide_eq_false h, Bool.false_eq_true, if_false]

/-! ### The length that the bytes fix, byte by byte (R36) -/

theorem byteAt_take_of_lt {bs : List Byte} {i k : Nat} (h : i < k) : byteAt (bs.take k) i = byteAt bs i := byteAt_take h

/-- Once the bytes taken in fix the length, further ones do not change it. -/
theorem fixedLength_of_take {bs : List Byte} {k m : Nat} (h : fixedLength (bs.take k) = some m) : fixedLength bs = some m := by
  have hlength : (bs.take k).length ≤ bs.length := by simp
  have hk : (bs.take k).length ≤ k := by simp
  unfold fixedLength at h ⊢
  split at h
  · cases h
  rename_i hne
  have hat {i : Nat} (hi : i < (bs.take k).length) : byteAt (bs.take k) i = byteAt bs i := byteAt_take (by omega)
  rw [if_neg (by omega)]
  rw [hat (show 0 < (bs.take k).length by omega)] at h
  cases hkind : kindIn (byteAt bs 0) with
  | palette =>
    simp only [hkind] at h ⊢
    split at h
    · cases h
    · rw [if_neg (by omega)]
      rwa [hat (show 1 < (bs.take k).length by omega)] at h
  | stripe =>
    simp only [hkind] at h ⊢
    split at h
    · cases h
    · rw [if_neg (by omega)]
      rwa [hat (show 5 < (bs.take k).length by omega), hat (show 6 < (bs.take k).length by omega),
        hat (show 1 < (bs.take k).length by omega)] at h
  | join | welcome | endFrame | withdraw | look | fill => simpa only [hkind] using h

/-! ### A burst taken in, bit by bit (R21, R36) -/

/-- The Receiver after `j` bits of a burst whose bytes before the check are `bs`. -/
def receivedBits (r : Receiver) (bs : List Byte) (j : Nat) : Receiver :=
  { Receiver.reset with
    body := bs.take (j / 8)
    check := ((withCheck bs).take (j / 8)).drop bs.length
    shift := byteAt (withCheck bs) (j / 8) >>> (8 - j % 8)
    bitCount := j % 8
    received := j / 8
    bodyLength := fixedLength (bs.take (j / 8))
    running := crc (bs.take (j / 8))
    missed := r.missed
    overflow := r.overflow }

theorem withCheck_length (bs : List Byte) : (withCheck bs).length = bs.length + 2 := by simp [withCheck, bytes16]

theorem sentBit_shifted (b : Byte) {i : Nat} (h : i < 8) :
    ((b >>> (8 - i)) <<< 1) ||| (BitVec.ofBool (b.getLsbD (7 - i))).setWidth 8 = b >>> (7 - i) := by
  refine BitVec.eq_of_getLsbD_eq fun m hm => ?_
  simp only [BitVec.getLsbD_or, BitVec.getLsbD_shiftLeft, BitVec.getLsbD_ushiftRight, BitVec.getLsbD_setWidth, BitVec.getLsbD_ofBool]
  rcases m with _ | m
  · simp
  · simp [hm, show 8 - i + m = 7 - i + (m + 1) by omega]

theorem byteAt_withCheck_of_lt {bs : List Byte} {k : Nat} (h : k < bs.length) : byteAt (withCheck bs) k = byteAt bs k := by
  simp [byteAt, withCheck, List.getD, List.getElem?_append_left h]

theorem take_succ_byteAt {bs : List Byte} {k : Nat} (h : k < bs.length) : bs.take (k + 1) = bs.take k ++ [byteAt bs k] := by
  rw [List.take_add_one, List.getElem?_eq_getElem h]
  simp [byteAt, h]

theorem crc_append_singleton (bs : List Byte) (b : Byte) : crc (bs ++ [b]) = crcByte (crc bs) b := by
  simp [crc, List.foldl_append]

/-- A byte of the burst handed over (R36). -/
theorem takeByte_receivedBits (r : Receiver) {bs : List Byte} {n k : Nat} (hlength : bs.length = n + 2) (hn : n ≤ 1541)
    (hfixed : fixedLength bs = some n) (hk : k < n + 4) :
    Receiver.takeByte { receivedBits r bs (8 * k) with shift := 0, bitCount := 0 } (byteAt (withCheck bs) k) =
      receivedBits r bs (8 * (k + 1)) := by
  have hstart : receivedBits r bs (8 * (k + 1)) =
      { Receiver.reset with
        body := bs.take (k + 1), check := ((withCheck bs).take (k + 1)).drop bs.length, received := k + 1,
        bodyLength := fixedLength (bs.take (k + 1)), running := crc (bs.take (k + 1)), missed := r.missed, overflow := r.overflow } := by
    unfold receivedBits
    rw [show 8 * (k + 1) / 8 = k + 1 by omega, show 8 * (k + 1) % 8 = 0 by omega, Nat.sub_zero,
      BitVec.ushiftRight_eq_zero (Nat.le_refl 8)]
    rfl
  have hat : 8 * k / 8 = k := by omega
  rw [hstart]
  by_cases hbody : k < n + 2
  · have htake := take_succ_byteAt (hlength ▸ hbody)
    have hbytes : ((withCheck bs).take k).drop bs.length = [] ∧ ((withCheck bs).take (k + 1)).drop bs.length = [] :=
      ⟨List.drop_eq_nil_of_le (by rw [List.length_take]; omega), List.drop_eq_nil_of_le (by rw [List.length_take]; omega)⟩
    have hfix : (fixedLength (bs.take k)).or (fixedLength (bs.take (k + 1))) = fixedLength (bs.take (k + 1)) := by
      cases h : fixedLength (bs.take k) with
      | none => rfl
      | some m =>
        have hsub : (bs.take (k + 1)).take k = bs.take k := by rw [List.take_take, Nat.min_eq_left (Nat.le_succ k)]
        exact (fixedLength_of_take (k := k) (by rw [hsub, h])).symm
    rw [Receiver.takeByte_of_body]
    · simp only [receivedBits, hat, byteAt_withCheck_of_lt (hlength ▸ hbody), ← crc_append_singleton, ← htake, hfix, hbytes]
      rfl
    · intro m hm
      simp only [receivedBits, hat] at hm ⊢
      have hmn := fixedLength_of_take hm
      rw [hfixed] at hmn
      cases hmn
      omega
    · simp only [receivedBits, hat]
      omega
  · have hall : bs.take k = bs ∧ bs.take (k + 1) = bs := ⟨List.take_of_length_le (by omega), List.take_of_length_le (by omega)⟩
    have hcheck : ((withCheck bs).take k).drop bs.length ++ [byteAt (withCheck bs) k] =
        ((withCheck bs).take (k + 1)).drop bs.length := by
      have hlt : k < (withCheck bs).length := by
        rw [withCheck_length]
        omega
      rw [take_succ_byteAt hlt, List.drop_append_of_le_length (by rw [List.length_take]; omega)]
    rw [Receiver.takeByte_of_check (m := n)]
    · simp only [receivedBits, hat, hall, hcheck]
      rfl
    · simp only [receivedBits, hat, hall, hfixed]
    · simp only [receivedBits, hat]
      omega

/-- One bit of the burst taken in. -/
theorem takeBit_receivedBits (r : Receiver) {bs : List Byte} {n j : Nat} (hlength : bs.length = n + 2) (hn : n ≤ 1541)
    (hfixed : fixedLength bs = some n) (hj : j < 8 * (n + 4)) :
    (receivedBits r bs j).takeBit (sentBit (withCheck bs) j) = receivedBits r bs (j + 1) := by
  have hshift : (receivedBits r bs j).shift <<< 1 ||| (BitVec.ofBool (sentBit (withCheck bs) j)).setWidth 8 =
      byteAt (withCheck bs) (j / 8) >>> (7 - j % 8) := sentBit_shifted _ (Nat.mod_lt _ (by decide))
  unfold Receiver.takeBit
  dsimp only
  rw [hshift]
  by_cases hlast : j % 8 < 7
  · rw [if_pos (show (receivedBits r bs j).bitCount < 7 from hlast)]
    simp only [receivedBits, show (j + 1) / 8 = j / 8 by omega, show (j + 1) % 8 = j % 8 + 1 by omega,
      show 8 - (j % 8 + 1) = 7 - j % 8 by omega]
  · rw [if_neg (show ¬ (receivedBits r bs j).bitCount < 7 from hlast), show 7 - j % 8 = 0 by omega, BitVec.ushiftRight_zero,
      show j + 1 = 8 * (j / 8 + 1) by omega, ← takeByte_receivedBits r hlength hn hfixed (by omega)]
    simp only [receivedBits, show 8 * (j / 8) / 8 = j / 8 by omega]

theorem atLastBit_receivedBits (r : Receiver) {bs : List Byte} {n j : Nat} (hlength : bs.length = n + 2)
    (hfixed : fixedLength bs = some n) :
    (receivedBits r bs j).atLastBit = decide (j = 8 * (n + 4) - 1) := by
  have hindex : (receivedBits r bs j).bitIndex = j := Nat.div_add_mod j 8
  unfold Receiver.atLastBit
  rw [hindex]
  cases h : fixedLength (bs.take (j / 8)) with
  | none =>
    have hearly : j / 8 < n + 2 := by
      refine Nat.lt_of_not_le fun hle => ?_
      rw [List.take_of_length_le (by omega), hfixed] at h
      cases h
    simp only [receivedBits, h]
    exact (decide_eq_false (by omega)).symm
  | some m =>
    have hmn := fixedLength_of_take h
    rw [hfixed] at hmn
    cases hmn
    simp only [receivedBits, h]

/-- The station after `j` bits of a burst: the Receiver has them, and outside the bit period nothing has changed. -/
def HasTaken (s : State) (bs : List Byte) (j : Nat) (t : State) : Prop :=
  t = { s with link := { s.link with bitOpen := t.link.bitOpen, drive := t.link.drive }, rx := receivedBits s.rx bs j }

/-- A receiver takes in one bit of a burst, with or without a BIT_PERIOD_START before it. -/
theorem exec_bit_of_hasTaken {s t : State} {bs : List Byte} {n j : Nat} (hview : s.link.view = .burst) (hslot : s.link.atSlot = false)
    (hfree : s.pub.transmission = none) (hlength : bs.length = n + 2) (hn : n ≤ 1541) (hfixed : fixedLength bs = some n)
    (hj : j < 8 * (n + 4) - 1) (h : HasTaken s bs j t) (begun : Bool) :
    ∃ u v, (if begun then exec .bitPeriodStart t else .next t) = .next u ∧
      exec (.bitSamplePoint (if sentBit (withCheck bs) j then .high else .low)) u = .next v ∧ HasTaken s bs (j + 1) v := by
  have hopen (t : State) (ht : HasTaken s bs j t) : HasTaken s bs j t.ensureBit := by
    unfold State.ensureBit
    split
    · exact ht
    · unfold HasTaken State.beginBit
      rw [ht]
  have hu : ∃ u, (if begun then exec .bitPeriodStart t else .next t) = .next u ∧ HasTaken s bs j u := by
    cases begun
    · exact ⟨t, rfl, h⟩
    · refine ⟨t.ensureBit, ?_, hopen t h⟩
      have htview : t.link.view = .burst := by rw [h]; exact hview
      have htslot : t.link.atSlot = false := by rw [h]; exact hslot
      rw [if_pos rfl, exec_bitPeriodStart_of_burst htview, htslot]
      rfl
  obtain ⟨u, hstart, hu⟩ := hu
  have huview : u.link.view = .burst := by rw [hu]; exact hview
  have huslot : u.link.atSlot = false := by rw [hu]; exact hslot
  have hufree : u.sending = none := by rw [hu]; simp [State.sending, hfree]
  have hrx (v : State) (hv : HasTaken s bs j v) : v.rx = receivedBits s.rx bs j := by rw [hv]
  have hlast (v : State) (hv : HasTaken s bs j v) : v.rx.atLastBit = false := by
    rw [hrx v hv, atLastBit_receivedBits s.rx hlength hfixed]
    exact decide_eq_false (by omega)
  have hbit : Level.bit (if sentBit (withCheck bs) j then .high else .low) = sentBit (withCheck bs) j := by
    cases sentBit (withCheck bs) j <;> rfl
  refine ⟨u, _, hstart, exec_bitSamplePoint_of_good huview huslot (hlast u hu) (.inl hufree), ?_⟩
  have hopened := hopen u hu
  rw [hbit, State.takeBit_of_not_last (hlast _ hopened), hrx _ hopened, takeBit_receivedBits s.rx hlength hn hfixed (by omega)]
  unfold HasTaken at hopened ⊢
  rw [hopened]

/-- A receiver takes in any part of a burst but its last bit. -/
theorem hasTaken_afterBits {s : State} {bs : List Byte} {n : Nat} (hview : s.link.view = .burst) (hslot : s.link.atSlot = false)
    (hfree : s.pub.transmission = none) (hlength : bs.length = n + 2) (hn : n ≤ 1541) (hfixed : fixedLength bs = some n) :
    ∀ (starts : List Bool) (j : Nat) (t : State), HasTaken s bs j t → j + starts.length ≤ 8 * (n + 4) - 1 →
      HasTaken s bs (j + starts.length)
        (afterBits t (starts.zip ((List.range' j starts.length).map (sentBit (withCheck bs)))))
  | [], j, t, h, _ => h
  | begun :: starts, j, t, h, hle => by
    rw [List.length_cons] at hle
    obtain ⟨u, v, hstart, hsample, hv⟩ :=
      exec_bit_of_hasTaken hview hslot hfree hlength hn hfixed (by omega) h begun
    have hrest := hasTaken_afterBits hview hslot hfree hlength hn hfixed starts (j + 1) v hv (by omega)
    rw [List.length_cons, List.range'_succ, List.map_cons, List.zip_cons_cons]
    simp only [afterBits, hstart, hsample]
    rwa [show j + (starts.length + 1) = j + 1 + starts.length by omega]

/-! ### The refusal slot and the transmitter that stops (R24–R26) -/

theorem State.beginSlot_eq (s : State) :
    (s.link.refuse = true → s.join.station = .listening ∨ s.join.station = .member →
      s.beginSlot = { s with link := { s.link with bitOpen := true, drive := .stretch }
                             port.counters := { s.port.counters with refusalsSent := saturate s.port.counters.refusalsSent } }) ∧
    (s.link.refuse = false ∨ s.join.station ≠ .listening ∧ s.join.station ≠ .member →
      s.beginSlot = { s with link := { s.link with bitOpen := true, drive := if s.pub.transmission = none then .released else .one } }) := by
  have hrefuses : s.join.station.refuses = true ↔ s.join.station = .listening ∨ s.join.station = .member := by
    cases s.join.station <;> simp [StationState.refuses]
  refine ⟨fun h h' => ?_, fun h => ?_⟩
  · unfold State.beginSlot
    rw [if_pos (by simp [h, hrefuses.2 h'])]
    rfl
  · have hnot : ¬ (s.link.refuse && s.join.station.refuses) = true := by
      rw [Bool.and_eq_true, hrefuses]
      rintro ⟨hrefuse, hstation⟩
      rcases h with h | ⟨h, h'⟩
      · simp [h] at hrefuse
      · exact hstation.elim h h'
    unfold State.beginSlot
    rw [if_neg hnot]
    cases s.pub.transmission <;> simp

end Sys2Proof.Machine
end

section
/-! The statements on the bits of a burst: O26, O27, O28 and O29. -/

namespace Sys2Proof.Proofs

open Sys2Proof.Machine Sys2Proof.Safety

/-- Settles O26: the symbols quarter by quarter, the bit rates, and what a BIT_PERIOD_START begins. -/
theorem bitPeriodStartDrivesTheSymbol : Obligations.BitPeriodStartDrivesTheSymbol := by
  have hline (ds : List Drive) (q : Fin 4) : lineIn ds q = .low ↔ ∃ d ∈ ds, d.lowIn q = true := by
    unfold lineIn
    rw [← List.any_eq_true]
    split <;> simp_all
  refine ⟨fun q => ⟨rfl, rfl, ?_, ?_, ?_, fun ds => hline ds q, fun ds hds => ⟨?_, ?_⟩⟩, fun b => ?_, fun s => ⟨fun h => ?_,
    fun r h => ?_⟩, fun s => ⟨fun hview => ?_, fun hview hopen => ?_, fun hview hopen hslot hbits => ?_, fun hview hopen hslot => ?_⟩⟩
  · revert q
    decide
  · revert q
    decide
  · revert q
    decide
  · have hhigh : ¬ lineIn ds 3 = .low := by
      rw [hline]
      rintro ⟨d, hd, hlow⟩
      rcases hds d hd with rfl | rfl | rfl | rfl <;> simp [Drive.lowIn] at hlow
    cases h : lineIn ds 3
    · exact absurd h hhigh
    · rfl
  · rw [hline]
    constructor
    · rintro ⟨d, hd, hlow⟩
      rcases hds d hd with rfl | rfl | rfl | rfl
      · simp [Drive.lowIn] at hlow
      · simp [Drive.lowIn] at hlow
      · exact .inl hd
      · exact .inr hd
    · rintro (h | h)
      · exact ⟨_, h, rfl⟩
      · exact ⟨_, h, rfl⟩
  · cases b <;> rfl
  · simp [State.bitPeriodNs, h]
  · simp only [State.bitPeriodNs, h, Option.map_some]
    cases r.bitRate <;> rfl
  · simp only [exec, execBitPeriodStart, hview]
  · rw [exec_bitPeriodStart_of_burst hview]
    split
    · exact congrArg Host.Outcome.next (if_pos hopen)
    · exact congrArg Host.Outcome.next (if_pos hopen)
  · have hindex : (8 * s.rx.received + s.rx.bitCount) / 8 = s.rx.received ∧
        (8 * s.rx.received + s.rx.bitCount) % 8 = s.rx.bitCount := by omega
    rw [exec_bitPeriodStart_of_burst hview, hslot]
    simp only [Bool.false_eq_true, if_false, State.ensureBit, hopen, State.beginBit, State.sending]
    cases s.pub.transmission with
    | none => rfl
    | some t => simp only [Option.map_some, sentBit, Receiver.bitIndex, hindex, driveOf, byteAt]
  · obtain ⟨hstretch, hother⟩ := s.beginSlot_eq
    have hslotBegins : s.ensureSlot = s.beginSlot := if_neg (by simp [hopen])
    rw [exec_bitPeriodStart_of_burst hview, hslot, if_pos rfl, hslotBegins]
    exact ⟨fun h h' => congrArg Host.Outcome.next (hstretch h h'), fun h => congrArg Host.Outcome.next (hother h)⟩

/-- Settles O27: the sampled bit is shifted in, and the eighth hands its byte over. -/
theorem bitSamplePointTakesOneBit : Obligations.BitSamplePointTakesOneBit := by
  intro s l hview hslot hopen hlast hsending
  rw [← Level.bit_eq] at hsending
  have hexec := exec_bitSamplePoint_of_good hview hslot hlast hsending
  rw [State.ensureBit_of_open hopen, State.takeBit_of_not_last hlast] at hexec
  have hbit : (if l.bit = true then 1 else 0) = if l = .high then 1 else 0 := by cases l <;> rfl
  refine ⟨fun h => ?_, fun h => ?_⟩
  · rw [hexec, Receiver.takeBit_of_lt h, hbit]
  · rw [hexec, Receiver.takeBit_of_last h, hbit]

/-- Settles O28: by induction on the bits, with the Receiver after each of them known. -/
theorem aWholeBurstIsTakenInBitByBit : Obligations.AWholeBurstIsTakenInBitByBit := by
  intro s bs n starts hview hslot hfree hrx hlength hn hfixed hstarts burst t
  have hzero : HasTaken s bs 0 s := by
    have hempty : receivedBits s.rx bs 0 = s.rx := by
      rw [hrx]
      simp only [receivedBits, Nat.zero_div, Nat.zero_mod, List.take_zero, List.drop_nil, Nat.sub_zero,
        BitVec.ushiftRight_eq_zero (Nat.le_refl 8)]
      rfl
    unfold HasTaken
    rw [hempty]
  have hburst : burst.length = n + 4 := by
    rw [withCheck_length]
    omega
  have htaken : HasTaken s bs (8 * (n + 4) - 1) t := by
    have h := hasTaken_afterBits hview hslot hfree hlength hn hfixed starts 0 s hzero (by omega)
    rw [Nat.zero_add, hstarts, ← List.range_eq_range', ← hburst] at h
    rwa [← hburst]
  have hrxt : t.rx = receivedBits s.rx bs (8 * (n + 4) - 1) := by rw [htaken]
  have hbytes : (8 * (n + 4) - 1) / 8 = n + 3 := by omega
  have hbits : (8 * (n + 4) - 1) % 8 = 7 := by omega
  have hall : bs.take (n + 3) = bs := List.take_of_length_le (by omega)
  have hlast : t.rx.atLastBit = true := by
    rw [hrxt, atLastBit_receivedBits s.rx hlength hfixed]
    exact decide_eq_true rfl
  have hcheck : (burst.take (n + 3)).drop bs.length = (burst.drop (n + 2)).dropLast := by
    rw [List.dropLast_eq_take, List.length_drop, hburst, List.take_drop, hlength]
    congr 2
    omega
  refine ⟨?_, ?_, ?_, ?_, ?_, ?_, hlast, ?_⟩
  · simp only [hrxt, receivedBits, hbytes, hall]
  · simp only [hrxt, receivedBits, hbytes]
    exact hcheck
  · simp only [hrxt, receivedBits, hbytes, hall, hfixed]
  · simp only [hrxt, receivedBits, hbytes, hall]
  · simp only [hrxt, receivedBits, hbytes]
  · simp only [hrxt, receivedBits, hbits]
  · rw [hrxt]
    exact htaken

/-- Settles O29: the report acted on leaves the Receiver alone, and the bit is taken in behind it. -/
theorem lostArbitrationAndBitError : Obligations.LostArbitrationAndBitError := by
  refine ⟨fun s t hview hslot hopen hreceived hlast ht hbit => ?_, fun s t b hview hslot hopen ht hsending hnot => ?_⟩
  · have hsending : s.sending = some true := by
      simp only [State.sending, ht, Option.map_some, Receiver.bitIndex, hreceived, Nat.mul_zero, Nat.zero_add, hbit]
    have hexec : exec .lostArbitration s = .next ((s.ensureBit.stopDriving .lost).takeBit false).settle :=
      if_pos ⟨State.takingBits_of hview hslot, decide_eq_true hreceived, hsending⟩
    have hrx : (s.stopDriving .lost).rx = s.rx := s.report_rx .lost
    rw [hexec, State.ensureBit_of_open hopen, State.takeBit_of_not_last (by rw [hrx]; exact hlast), hrx]
    rfl
  · have hready : s.takingBits = true ∧ ¬ (s.rx.inByte0 = true ∧ b = true) := by
      refine ⟨State.takingBits_of hview hslot, ?_⟩
      rintro ⟨hbyte, rfl⟩
      rcases hnot with h | h
      · exact h (of_decide_eq_true hbyte)
      · cases h
    have hexec : exec .bitError s = .next (((s.count .bitErrors).stopDriving .bitError).takeBit (!b)).settle := by
      simp only [exec, execBitError, hsending, State.ensureBit_of_open hopen]
      exact if_pos hready
    have hrx : ((s.count .bitErrors).stopDriving .bitError).rx = s.rx := (s.count .bitErrors).report_rx .bitError
    refine ⟨State.report_transmission _ _, fun hlast => ?_, fun hlast => ?_⟩
    · rw [hexec, State.takeBit_of_not_last (by rw [hrx]; exact hlast), hrx]
      rfl
    · rw [hexec]
      simp only [State.takeBit, hrx, hlast, if_true]
      rfl

end Sys2Proof.Proofs
end

section
/-! SUPPORT. The ends of commits and preparation passes and the line time: what a STRIPE's and a PALETTE's writes read, what a
preparation pass leaves, and the three steps of compositing (06, 08). -/

namespace Sys2Proof.Machine

open Sys2Proof.Safety

/-! ### What a STRIPE writes (R8, R105) -/

/-- The pixels of a payload that fall inside the viewport fall on different positions. -/
theorem stripePixel_inj {r : Record} (hr : r.valid = true) {q : Rect} {j k a : Nat}
    (hj : r.addressOf (q.x + j % q.width) (q.y + j / q.width) = some a)
    (hk : r.addressOf (q.x + k % q.width) (q.y + k / q.width) = some a) : j = k := by
  obtain ⟨hx, hy⟩ := Record.addressOf_inj hr hj hk
  have hmod : j % q.width = k % q.width := by omega
  have hdiv : j / q.width = k / q.width := by omega
  rw [← Nat.div_add_mod j q.width, ← Nat.div_add_mod k q.width, hmod, hdiv]

/-- A position of a payload pixel reads that pixel, expanded, after the writes of a STRIPE. -/
theorem read_stripeCells {α : Type} [DecidableEq α] {d : α} {m : Memory α} (hwf : Memory.wf d m) {r : Record}
    (hr : r.valid = true) {q : Rect} {slot : List RawPixel} (v : RawPixel → α) {k a : Nat} (hk : k < slot.length)
    (ha : r.addressOf (q.x + k % q.width) (q.y + k / q.width) = some a) :
    Memory.read d (m.writeAll d ((stripeCells r q slot).map fun c => (c.1, v c.2))) a = v slot[k] := by
  refine Memory.read_writeAll_of_mem _ hwf ?_ ?_
  · exact List.mem_map.2 ⟨(a, slot[k]), mem_stripeCells_iff.2 ⟨k, hk, rfl, ha⟩, rfl⟩
  · rintro c hc hat
    obtain ⟨⟨b, p⟩, hb, rfl⟩ := List.mem_map.1 hc
    obtain ⟨j, hj, hp, hjb⟩ := mem_stripeCells_iff.1 hb
    cases hat
    cases stripePixel_inj hr hjb ha
    exact congrArg v hp

/-- A position of no payload pixel reads what it held before the writes of a STRIPE. -/
theorem read_stripeCells_of_outside {α : Type} [DecidableEq α] {d : α} {m : Memory α} (hwf : Memory.wf d m) {r : Record}
    {q : Rect} {slot : List RawPixel} (v : RawPixel → α) {a : Nat}
    (ha : ∀ k, k < slot.length → r.addressOf (q.x + k % q.width) (q.y + k / q.width) ≠ some a) :
    Memory.read d (m.writeAll d ((stripeCells r q slot).map fun c => (c.1, v c.2))) a = Memory.read d m a := by
  refine Memory.read_writeAll_of_not_mem _ hwf a ?_
  rintro c hc rfl
  obtain ⟨b, hb, rfl⟩ := List.mem_map.1 hc
  obtain ⟨k, hk, -, hat⟩ := mem_stripeCells_iff.1 hb
  exact ha k hk hat

section

variable (f : FrameStore) (r : Record) (palette : Memory Color) (l : Layer) (q : Rect) (slot : List RawPixel)

theorem FrameStore.writeStripe_eq :
    f.writeStripe r palette l q slot =
      { f with baseA := (f.writeStripe r palette l q slot).baseA, baseB := (f.writeStripe r palette l q slot).baseB,
               overlayA := (f.writeStripe r palette l q slot).overlayA, overlayB := (f.writeStripe r palette l q slot).overlayB } := by
  cases l with
  | base =>
    unfold FrameStore.writeStripe FrameStore.setBaseFill
    cases f.shownBase <;> rfl
  | overlay =>
    unfold FrameStore.writeStripe FrameStore.setOverlayFill
    cases f.shownOverlay <;> rfl

@[simp] theorem FrameStore.writeStripe_request : (f.writeStripe r palette l q slot).request = f.request := by
  rw [FrameStore.writeStripe_eq]

theorem FrameStore.writeStripe_base_shownBase :
    (f.writeStripe r palette l q slot).base (f.writeStripe r palette l q slot).shownBase = f.base f.shownBase := by
  cases l with
  | base => simp only [FrameStore.writeStripe, FrameStore.setBaseFill_shownBase, FrameStore.setBaseFill_base_shownBase]
  | overlay => simp only [FrameStore.writeStripe, FrameStore.setOverlayFill_shownBase, FrameStore.setOverlayFill_base]

theorem FrameStore.writeStripe_overlay_shownOverlay :
    (f.writeStripe r palette l q slot).overlay (f.writeStripe r palette l q slot).shownOverlay =
      f.overlay f.shownOverlay := by
  cases l with
  | base => simp only [FrameStore.writeStripe, FrameStore.setBaseFill_shownOverlay, FrameStore.setBaseFill_overlay]
  | overlay =>
    simp only [FrameStore.writeStripe, FrameStore.setOverlayFill_shownOverlay, FrameStore.setOverlayFill_overlay_shownOverlay]

theorem FrameStore.overlayFill_writeStripe_base : (f.writeStripe r palette .base q slot).overlayFill = f.overlayFill := by
  simp only [FrameStore.overlayFill, FrameStore.writeStripe, FrameStore.setBaseFill_shownOverlay, FrameStore.setBaseFill_overlay]

theorem FrameStore.baseFill_writeStripe_overlay : (f.writeStripe r palette .overlay q slot).baseFill = f.baseFill := by
  simp only [FrameStore.baseFill, FrameStore.writeStripe, FrameStore.setOverlayFill_shownBase, FrameStore.setOverlayFill_base]

end

theorem exec_stripeCommit_of_committing {s : State} {r : Record} {tag : Tag} {l : Layer} {f : Format} {q : Rect}
    {slot : List RawPixel} {rest : List IntakeEntry} (hrecord : s.record = some r) (hcommitting : s.intake.committing = true)
    (hqueue : s.intake.queue = ⟨tag, .stripe l f q slot⟩ :: rest) :
    exec .stripeCommit s = .next (State.makeMarks (State.settle
      { s with intake := { s.intake with queue := rest, committing := false }
               frame := { s.frame.writeStripe r s.intake.palette l q slot with
                          request := s.frame.request.map fun x => { x with heldCommit := false } } })) := by
  simp only [exec, execStripeCommit, hrecord, hcommitting, hqueue, State.finishCommit, List.tail_cons,
    FrameStore.commitEnded_eq, FrameStore.writeStripe_request]

/-! ### What a PALETTE writes (R107) -/

/-- Every entry of the working palette after a PALETTE's writes: its range has the colours, the rest what it held. -/
theorem read_writePalette_eq_dite {palette : Memory Color} (hwf : Memory.wf Color.black palette) (first : Nat) (slot : List Color)
    (a : Nat) :
    Memory.read Color.black (writePalette palette first slot) a =
      if h : first ≤ a ∧ a - first < slot.length then slot[a - first] else Memory.read Color.black palette a := by
  split
  · next h =>
    obtain ⟨hfirst, hlt⟩ := h
    have hread := read_writePalette first hlt hwf
    rwa [Nat.add_sub_cancel' hfirst] at hread
  · next h =>
    refine Memory.read_writeAll_of_not_mem _ hwf a ?_
    rintro c hc rfl
    obtain ⟨⟨v, i⟩, hi, rfl⟩ := List.mem_map.1 hc
    obtain ⟨hlt, -⟩ := List.getElem?_eq_some_iff.1 (List.mk_mem_zipIdx_iff_getElem?.1 hi)
    exact h ⟨Nat.le_add_right .., by rwa [Nat.add_sub_cancel_left]⟩

theorem exec_paletteCommit_of_committing {s : State} {tag : Tag} {first : Nat} {slot : List Color} {rest : List IntakeEntry}
    (hcommitting : s.intake.committing = true) (hqueue : s.intake.queue = ⟨tag, .palette first slot⟩ :: rest) :
    exec .paletteCommit s = .next (State.makeMarks (State.settle
      { s with intake := { queue := rest, committing := false, palette := writePalette s.intake.palette first slot }
               frame.request := s.frame.request.map fun x => { x with heldCommit := false } })) := by
  simp only [exec, execPaletteCommit, hcommitting, hqueue, State.finishCommit, List.tail_cons, FrameStore.commitEnded_eq]

/-! ### What a preparation pass leaves (R143) -/

theorem Record.inUse_iff (r : Record) (a : Nat) : r.inUse a = true ↔ a % 128 < r.columns ∧ a / 128 < r.rows := by
  rw [Record.inUse, Bool.and_eq_true]
  exact and_congr decide_eq_true_iff decide_eq_true_iff

theorem FrameStore.wf_bases {f : FrameStore} (hfill : Memory.wf Color.black f.baseFill)
    (hshown : Memory.wf Color.black (f.base f.shownBase)) : Memory.wf Color.black f.baseA ∧ Memory.wf Color.black f.baseB := by
  unfold FrameStore.baseFill at hfill
  cases hb : f.shownBase with
  | a => rw [hb] at hfill hshown; exact ⟨hshown, hfill⟩
  | b => rw [hb] at hfill hshown; exact ⟨hfill, hshown⟩

theorem FrameStore.wf_overlays {f : FrameStore} (hfill : Memory.wf OverlayPixel.clear f.overlayFill)
    (hshown : Memory.wf OverlayPixel.clear (f.overlay f.shownOverlay)) :
    Memory.wf OverlayPixel.clear f.overlayA ∧ Memory.wf OverlayPixel.clear f.overlayB := by
  unfold FrameStore.overlayFill at hfill
  cases hb : f.shownOverlay with
  | a => rw [hb] at hfill hshown; exact ⟨hshown, hfill⟩
  | b => rw [hb] at hfill hshown; exact ⟨hfill, hshown⟩

theorem FrameStore.prepare_base_eq (f : FrameStore) (mode : CarryMode) (p : Nat → Bool) :
    f.prepare mode .base p = { f with baseA := (f.prepare mode .base p).baseA, baseB := (f.prepare mode .base p).baseB } := by
  cases mode with
  | keep => rfl
  | carry => exact FrameStore.setBaseFill_eq f _
  | clear => exact FrameStore.setBaseFill_eq f _

theorem FrameStore.prepare_overlay_eq (f : FrameStore) (mode : CarryMode) (p : Nat → Bool) :
    f.prepare mode .overlay p =
      { f with overlayA := (f.prepare mode .overlay p).overlayA, overlayB := (f.prepare mode .overlay p).overlayB } := by
  cases mode with
  | keep => rfl
  | carry => exact FrameStore.setOverlayFill_eq f _
  | clear => exact FrameStore.setOverlayFill_eq f _

theorem exec_preparationPassEnd_of_preparing {s : State} {r : Record} {l : Layer} (hrecord : s.record = some r)
    (h : s.frame.layerState l = .preparing) :
    exec (.preparationPassEnd l) s = .next (State.makeMarks (State.settle { s with frame := s.frame.endPass r l })) := by
  simp only [exec, execPreparationPassEnd, hrecord, h, if_true]

/-! ### Compositing and the line time (R146, R147) -/

theorem invertComponent_toNat (invert : Bool) (c : BitVec 6) :
    (invertComponent invert c).toNat = if invert then 63 - c.toNat else c.toNat := by
  cases invert with
  | false => rfl
  | true =>
    simp only [invertComponent, if_true]
    bv_omega

theorem dimComponent_toNat (dim : BitVec 4) (c : BitVec 6) : (dimComponent dim c).toNat = c.toNat * (16 - dim.toNat) / 16 := by
  have hc : c.toNat < 64 := c.isLt
  have hle : c.toNat * (16 - dim.toNat) / 16 ≤ c.toNat :=
    Nat.div_le_of_le_mul ((Nat.mul_le_mul_left _ (Nat.sub_le ..)).trans (Nat.le_of_eq (Nat.mul_comm ..)))
  rw [dimComponent, BitVec.toNat_ofNat]
  exact Nat.mod_eq_of_lt (hle.trans_lt hc)

/-- A component of a composited pixel, as a number. -/
theorem composite_component (look : Look) (x : BitVec 6) :
    (dimComponent look.dim (invertComponent look.invert x)).toNat =
      (if look.invert then 63 - x.toNat else x.toNat) * (16 - look.dim.toNat) / 16 := by
  rw [dimComponent_toNat, invertComponent_toNat]

/-- The layer that a pixel shows, and the look's function of each of its components. -/
theorem composite_eq (look : Look) (base top : Color) (isOpaque : Bool) :
    composite look base ⟨top, isOpaque⟩ =
      let c := if look.overlayVisible = true ∧ isOpaque = true then top else base
      ⟨dimComponent look.dim (invertComponent look.invert c.red), dimComponent look.dim (invertComponent look.invert c.green),
        dimComponent look.dim (invertComponent look.invert c.blue)⟩ := by
  simp only [composite, Bool.and_eq_true]

theorem exec_lineTime_of_inner {s : State} {r : Record} {sc : Scan} (hrecord : s.record = some r) (hscan : s.frame.scan = some sc)
    (h : sc.row + 1 < r.rows) :
    exec .lineTime s = .next
      { s with frame := { s.frame with panel := some (s.frame.rowShown r sc), scan := some { sc with row := sc.row + 1 } } } := by
  simp only [exec, execLineTime, hrecord, hscan, if_pos h]

theorem exec_lineTime_of_last {s : State} {r : Record} {sc : Scan} (hrecord : s.record = some r) (hscan : s.frame.scan = some sc)
    (h : r.rows ≤ sc.row + 1) :
    exec .lineTime s = .next (State.makeMarks (State.settle
      { s with frame := { s.frame with
          panel := some (s.frame.rowShown r sc)
          scan := some { row := 0, base := s.frame.shownBase, overlay := s.frame.shownOverlay }
          request := s.frame.request.map fun q => { q with passEnd := true } } })) := by
  simp only [exec, execLineTime, hrecord, hscan, if_neg (Nat.not_lt.2 h), FrameStore.lastRow, FrameStore.passEnded_eq,
    FrameStore.newPass]

/-- The outputs over a line time: one entry for each column, and the four of the blanking and the latch with the last column's. -/
theorem FrameStore.lineOutputs_eq (f : FrameStore) {r : Record} (sc : Scan) {n : Nat} (hcolumns : r.columns = n + 1) :
    f.lineOutputs r sc =
      let pixel (column : Nat) : Color := composite f.look (Memory.read Color.black (f.base sc.base) (bankAddress column sc.row))
        (Memory.read OverlayPixel.clear (f.overlay sc.overlay) (bankAddress column sc.row))
      let shows (column : Nat) (blank latch : Bool) : PanelPins :=
        { color := pixel column, column := BitVec.ofNat 7 column, row := BitVec.ofNat 7 sc.row, blank := blank, latch := latch }
      ((List.range (n + 1)).map fun column => shows column false false) ++
        [shows n true false, shows n true true, shows n true false, shows n false false] := by
  have hzip (g : Nat → Color) : ((List.range (n + 1)).map g).zipIdx = (List.range (n + 1)).map fun c => (g c, c) := by
    refine List.ext_getElem (by simp) fun i h₁ h₂ => ?_
    simp
  simp only [FrameStore.lineOutputs, FrameStore.rowShown, hcolumns, hzip, List.map_map]
  simp only [List.range_succ, List.map_append, List.map_cons, List.map_nil, List.getLastD_concat]
  rfl

end Sys2Proof.Machine
end

section
/-! The statements of the commits and the picture: O41, O42, O44, O45 and O46. -/

namespace Sys2Proof.Proofs

open Sys2Proof.Machine Sys2Proof.Safety

/-- Settles O41: settling is the four acts in their order beside what is kept of a completion, and the beginning of a commit reads the
head's content against its layer. -/
theorem commitsBeginWithAnEligibleHead : Obligations.CommitsBeginWithAnEligibleHead := by
  intro s
  have hbegin (e : IntakeEntry) (rest : List IntakeEntry) (hqueue : s.intake.queue = e :: rest)
      (hidle : s.intake.committing = false) :
      s.beginCommit = if e.content.eligible s.frame then { s with intake.committing := true } else s := by
    simp only [State.beginCommit, hqueue, hidle, Bool.not_false, Bool.true_and]
  have hlayer (e : IntakeEntry) (rest : List IntakeEntry) (layer : Layer) (hqueue : s.intake.queue = e :: rest)
      (hidle : s.intake.committing = false) (he : e.content.eligible s.frame = decide (s.frame.layerState layer = .steady)) :
      (s.frame.layerState layer = .steady → s.beginCommit = { s with intake.committing := true }) ∧
        (s.frame.layerState layer ≠ .steady → s.beginCommit = s) := by
    rw [hbegin e rest hqueue hidle, he]
    exact ⟨fun h => if_pos (decide_eq_true h), fun h => if_neg (by simpa using h)⟩
  refine ⟨?_, fun e rest hqueue hidle => ⟨?_, ?_, ?_⟩, ?_⟩
  · obtain ⟨x, hx, hundo⟩ := s.settle_eq
    refine ⟨s.settle, rfl, ?_, fun hnone => ?_⟩
    · rw [hx]
      rfl
    · exact State.beside_of_no_undo _ _ s (by simpa using hnone)
  · intro layer f q slot he
    exact hlayer e rest layer hqueue hidle (by rw [he]; rfl)
  · intro layer q color transparent he
    exact hlayer e rest layer hqueue hidle (by rw [he]; rfl)
  · intro first slot he
    rw [hbegin e rest hqueue hidle, he]
    rfl
  · rintro (hempty | hcommitting)
    · simp only [State.beginCommit, hempty]
    · cases hqueue : s.intake.queue <;> simp [State.beginCommit, hqueue, hcommitting]

/-- Settles O42: the commit writes the store that `FrameStore.writeStripe` gives, no two payload pixels on one position. -/
theorem stripeCommitWritesItsPixels : Obligations.StripeCommitWritesItsPixels := by
  intro s r tag layer f q slot rest hrecord hr hcommitting hqueue _ hbase hoverlay
  refine ⟨fun _ => rfl, s.frame.writeStripe r s.intake.palette layer q slot,
    exec_stripeCommit_of_committing hrecord hcommitting hqueue, FrameStore.writeStripe_eq ..,
    FrameStore.writeStripe_base_shownBase .., FrameStore.writeStripe_overlay_shownOverlay .., ?_, ?_⟩
  · rintro rfl
    refine ⟨FrameStore.overlayFill_writeStripe_base .., fun k a hk ha => ?_, fun a ha => ?_⟩
    · have hread := read_stripeCells hbase hr (slot := slot) (expand s.intake.palette) hk ha
      simp only [FrameStore.writeStripe, FrameStore.baseFill_setBaseFill, hread, true_and]
      intro hzero
      rw [hzero]
      rfl
    · simp only [FrameStore.writeStripe, FrameStore.baseFill_setBaseFill]
      exact read_stripeCells_of_outside hbase _ ha
  · rintro rfl
    refine ⟨FrameStore.baseFill_writeStripe_overlay .., fun k a hk ha => ?_, fun a ha => ?_⟩
    · simp only [FrameStore.writeStripe, FrameStore.overlayFill_setOverlayFill]
      exact read_stripeCells hoverlay hr (expandOverlay s.intake.palette) hk ha
    · simp only [FrameStore.writeStripe, FrameStore.overlayFill_setOverlayFill]
      exact read_stripeCells_of_outside hoverlay _ ha

/-- Settles O44. -/
theorem paletteCommitWritesItsRange : Obligations.PaletteCommitWritesItsRange :=
  fun s _ first slot _ hcommitting hqueue hwf =>
    ⟨writePalette s.intake.palette first slot, exec_paletteCommit_of_committing hcommitting hqueue,
      read_writePalette_eq_dite hwf first slot⟩

/-- Settles O45: a row inside the pass and the last row of one, the outputs with and without a scan, and compositing component by
component. -/
theorem lineTimeShowsOneCompositedRow : Obligations.LineTimeShowsOneCompositedRow := by
  refine ⟨fun s r sc hrecord hscan => ⟨exec_lineTime_of_inner hrecord hscan, exec_lineTime_of_last hrecord hscan⟩, ?_, ?_, ?_, ?_⟩
  · intro s r sc hrecord hscan hcolumns
    obtain ⟨n, hn⟩ := Nat.exists_eq_add_of_le' hcolumns
    simp only [State.panelOutputs, hrecord, hscan, FrameStore.lineOutputs_eq _ _ hn, hn, Nat.add_sub_cancel]
    rfl
  · intro s hscan
    cases hrecord : s.record <;> simp only [State.panelOutputs, hrecord, hscan] <;> rfl
  · intro look base top isOpaque
    simp only [composite_eq]
    exact ⟨composite_component .., composite_component .., composite_component ..⟩
  · decide

/-- Settles O46: the pass prepares the fill bank at the positions in use, by the carry mode of the layer. -/
theorem preparationPassPreparesTheFillBank : Obligations.PreparationPassPreparesTheFillBank := by
  intro s r hrecord hbase hoverlay hshownBase hshownOverlay
  obtain ⟨hbaseA, hbaseB⟩ := FrameStore.wf_bases hbase hshownBase
  obtain ⟨hoverlayA, hoverlayB⟩ := FrameStore.wf_overlays hoverlay hshownOverlay
  refine ⟨fun hpreparing => ?_, fun hpreparing => ?_⟩
  · refine ⟨s.frame.prepare r.baseMode .base r.inUse, ?_, FrameStore.prepare_base_eq .., ?_, fun a => ?_⟩
    · exact exec_preparationPassEnd_of_preparing hrecord hpreparing
    · have hshown : (s.frame.prepare r.baseMode .base r.inUse).shownBase = s.frame.shownBase := by
        rw [FrameStore.prepare_base_eq]
      rw [hshown]
      exact (s.frame.read_prepare_base r.baseMode r.inUse hbaseA hbaseB 0).2
    · rw [(s.frame.read_prepare_base r.baseMode r.inUse hbaseA hbaseB a).1]
      simp only [r.inUse_iff]
      cases r.baseMode <;> rfl
  · refine ⟨s.frame.prepare r.overlayMode .overlay r.inUse, ?_, FrameStore.prepare_overlay_eq .., ?_, fun a => ?_⟩
    · exact exec_preparationPassEnd_of_preparing hrecord hpreparing
    · have hshown : (s.frame.prepare r.overlayMode .overlay r.inUse).shownOverlay = s.frame.shownOverlay := by
        rw [FrameStore.prepare_overlay_eq]
      rw [hshown]
      exact (s.frame.read_prepare_overlay r.overlayMode r.inUse hoverlayA hoverlayB 0).2
    · rw [(s.frame.read_prepare_overlay r.overlayMode r.inUse hoverlayA hoverlayB a).1]
      refine ⟨fun h => ?_, fun h => ?_⟩
      · rw [if_pos ((r.inUse_iff a).2 h)]
        cases r.overlayMode <;> rfl
      · rw [if_neg fun hin => h ((r.inUse_iff a).1 hin)]

end Sys2Proof.Proofs
end

section
/-! SUPPORT. The slot result and the roster: the parts of a pending outcome carried out, the eviction of a LAGGARD, the aging entry by
entry, and the count of the pixels that a rectangle shares with the viewport (01, 05, 06). -/

namespace Sys2Proof.Machine

open Sys2Proof.Safety

/-! ### The pending outcome carried out, part by part (R94, R130) -/

theorem State.withRoster_port (s : State) (c : RosterChange) :
    s.withRoster c =
      { s with
        roster := c.roster
        port := { s.port with
          events := if c.event then s.port.events ||| 0x040 else s.port.events
          counters := if c.overflow then { s.port.counters with rosterOverflow := saturate s.port.counters.rosterOverflow }
            else s.port.counters } } := by
  obtain ⟨roster, event, overflow⟩ := c
  cases event <;> cases overflow <;> rfl

theorem State.carryWelcome_eq (s : State) (o : PendingOutcome) (delivered : Bool) :
    s.carryWelcome o delivered =
      { s with pub.welcomePending := decide (o.identity.kind ≠ .welcome) && (s.pub.welcomePending ||
          (o.answersJoin && delivered && decide (s.join.station = .member) && s.barrier.fillTag.isSome)) } := by
  unfold State.carryWelcome
  by_cases hkind : o.identity.kind = .welcome
  · rw [if_pos hkind, decide_eq_false (not_not_intro hkind), Bool.false_and]
  · rw [if_neg hkind, decide_eq_true hkind, Bool.true_and]
    split
    · next h => rw [h, Bool.or_true]
    · next h => rw [Bool.eq_false_iff.2 h, Bool.or_false]

theorem Receiver.addMissed_of_room {x : Receiver} {id : Identity} (h : id ∉ x.missed) (hroom : x.missed.length < 4) :
    x.addMissed id = { x with missed := x.missed ++ [id] } := by
  rw [Receiver.addMissed, if_neg h]
  exact if_pos hroom

theorem Receiver.addMissed_of_full {x : Receiver} {id : Identity} (h : id ∉ x.missed) (hfull : 4 ≤ x.missed.length) :
    x.addMissed id = { x with overflow := true } := by
  rw [Receiver.addMissed, if_neg h]
  exact if_neg (Nat.not_lt.2 hfull)

/-! ### The eviction (R80) -/

/-- The highest silence count is one that every LAGGARD keeps to and that some bound of them all bounds. -/
theorem highestSilence_bounds (roster : List RosterEntry) :
    (∀ e ∈ roster, e.state = .laggard → e.silence ≤ highestSilence roster) ∧
      ∀ n, (∀ e ∈ roster, e.state = .laggard → e.silence ≤ n) → highestSilence roster ≤ n := by
  unfold highestSilence
  induction roster using List.reverseRecOn with
  | nil => exact ⟨fun e he => absurd he List.not_mem_nil, fun n _ => Nat.zero_le n⟩
  | append_singleton es x ih =>
    obtain ⟨hle, hbound⟩ := ih
    simp only [List.foldl_append, List.foldl_cons, List.foldl_nil, List.mem_append, List.mem_singleton]
    refine ⟨fun e he hlag => ?_, fun n hn => ?_⟩
    · rcases he with he | rfl
      · have := hle e he hlag
        split <;> omega
      · rw [if_pos hlag]
        exact Nat.le_max_right ..
    · have hes := hbound n fun e he => hn e (.inl he)
      split
      · next hlag => exact Nat.max_le.2 ⟨hes, hn x (.inr rfl) hlag⟩
      · exact hes

/-- The LAGGARD of the highest silence count, with a higher one than every LAGGARD before it, is the one evicted. -/
theorem evictee_of_highest {front back : List RosterEntry} {v : RosterEntry} (hv : v.state = .laggard)
    (hfront : ∀ x ∈ front, x.state = .laggard → x.silence < v.silence)
    (hback : ∀ x ∈ back, x.state = .laggard → x.silence ≤ v.silence) : evictee (front ++ v :: back) = some v := by
  obtain ⟨hle, hbound⟩ := highestSilence_bounds (front ++ v :: back)
  have hhighest : highestSilence (front ++ v :: back) = v.silence := by
    refine Nat.le_antisymm (hbound _ fun e he hlag => ?_) (hle v (by simp) hv)
    rcases List.mem_append.1 he with he | he
    · exact (hfront e he hlag).le
    · rcases List.mem_cons.1 he with rfl | he
      · exact Nat.le_refl _
      · exact hback e he hlag
  rw [evictee, hhighest, List.find?_append, List.find?_eq_none.2, Option.none_or, List.find?_cons_of_pos]
  · simp [hv]
  · intro x hx hmatch
    rw [Bool.and_eq_true, decide_eq_true_eq, decide_eq_true_eq] at hmatch
    exact absurd hmatch.2 (hfront x hx hmatch.1).ne

theorem evictee_of_no_laggard {roster : List RosterEntry} (h : ∀ x ∈ roster, x.state ≠ .laggard) : evictee roster = none :=
  List.find?_eq_none.2 fun x hx => by simp [h x hx]

/-- Filtering out the station of one entry of a roster without two entries of a station removes that entry. -/
theorem filter_station_ne {front back : List RosterEntry} {v : RosterEntry}
    (h : ((front ++ v :: back).map RosterEntry.station).Nodup) :
    (front ++ v :: back).filter (fun x => decide (x.station ≠ v.station)) = front ++ back := by
  have hnodup : (v.station :: (front.map RosterEntry.station ++ back.map RosterEntry.station)).Nodup := by
    rw [List.map_append, List.map_cons] at h
    exact (List.perm_middle.nodup_iff).1 h
  obtain ⟨hnot, -⟩ := List.nodup_cons.1 hnodup
  have hkeep (l : List RosterEntry) (hl : ∀ x ∈ l, x.station ∈ front.map RosterEntry.station ++ back.map RosterEntry.station) :
      l.filter (fun x => decide (x.station ≠ v.station)) = l :=
    List.filter_eq_self.2 fun x hx => decide_eq_true fun heq => hnot (heq ▸ hl x hx)
  rw [List.filter_append, List.filter_cons_of_neg (by simp), hkeep front, hkeep back]
  · intro x hx
    exact List.mem_append_right _ (List.mem_map_of_mem hx)
  · intro x hx
    exact List.mem_append_left _ (List.mem_map_of_mem hx)

/-! ### A newcomer (R79) -/

theorem hasEntry_eq_false {roster : List RosterEntry} {n : StationNumber} (h : ∀ e ∈ roster, e.station ≠ n) :
    hasEntry roster n = false :=
  Bool.eq_false_iff.2 fun hhas => by
    obtain ⟨e, he, hn⟩ := hasEntry_iff.1 hhas
    exact h e he hn

theorem rosterOnBurst_of_newcomer {roster : List RosterEntry} {n : StationNumber} {k : Kind} (h : ∀ e ∈ roster, e.station ≠ n)
    (hwithdraw : k ≠ .withdraw) (hjoin : k ≠ .join) (hwelcome : k ≠ .welcome) :
    rosterOnBurst roster n k = addEntry roster
      { station := n, state := if k = .endFrame then .ended else .active, overdue := 0, silence := 0, heard := true } := by
  simp only [rosterOnBurst, hasEntry_eq_false h]
  cases k with
  | withdraw => exact absurd rfl hwithdraw
  | join => exact absurd rfl hjoin
  | welcome => exact absurd rfl hwelcome
  | endFrame => rfl
  | stripe => rfl
  | fill => rfl
  | palette => rfl
  | look => rfl

/-! ### The pixels that a rectangle shares with the viewport (R7) -/

/-- A canvas pixel lies in the rectangle and in the viewport exactly when it lies between the four bounds of the intersection. -/
theorem Record.mem_shared_iff (r : Record) (q : Rect) (cx cy : Nat) :
    (max q.x r.originX ≤ cx ∧ cx < min (q.x + q.width) (r.originX + r.viewWidth)) ∧
        max q.y r.originY ≤ cy ∧ cy < min (q.y + q.height) (r.originY + r.viewHeight) ↔
      (q.x ≤ cx ∧ cx < q.x + q.width ∧ q.y ≤ cy ∧ cy < q.y + q.height) ∧ (r.addressOf cx cy).isSome := by
  have haddress : (r.addressOf cx cy).isSome ↔
      r.originX ≤ cx ∧ cx < r.originX + r.viewWidth ∧ r.originY ≤ cy ∧ cy < r.originY + r.viewHeight := by
    rw [← not_iff_not, ← r.addressOf_eq_none_iff, Option.not_isSome_iff_eq_none]
  rw [haddress]
  omega

theorem Record.touches_iff (r : Record) (q : Rect) :
    r.touches q = true ↔ max q.x r.originX < min (q.x + q.width) (r.originX + r.viewWidth) ∧
      max q.y r.originY < min (q.y + q.height) (r.originY + r.viewHeight) := by
  simp [Record.touches, Record.intersection]

theorem nodup_pixelsBetween (x0 x1 y0 y1 : Nat) : (pixelsBetween x0 x1 y0 y1).Nodup := by
  unfold pixelsBetween
  refine List.nodup_flatMap.2 ⟨fun j _ => ?_, ?_⟩
  · exact List.nodup_range.map fun i i' h => by simpa using h
  · refine List.nodup_range.imp fun {j j'} hne p hp hp' => ?_
    simp only [List.mem_map] at hp hp'
    obtain ⟨i, -, rfl⟩ := hp
    obtain ⟨i', -, h⟩ := hp'
    exact hne (by simp only [Prod.mk.injEq] at h; omega)

theorem Record.nodup_intersectionAddresses {r : Record} (hr : r.valid = true) (q : Rect) : (r.intersectionAddresses q).Nodup := by
  refine List.Nodup.filterMap (fun p p' a ha ha' => ?_) (nodup_pixelsBetween ..)
  exact Prod.ext_iff.2 (Record.addressOf_inj hr ha ha')

theorem Record.length_intersectionAddresses (r : Record) (q : Rect) :
    (r.intersectionAddresses q).length =
      (min (q.x + q.width) (r.originX + r.viewWidth) - max q.x r.originX) *
        (min (q.y + q.height) (r.originY + r.viewHeight) - max q.y r.originY) := by
  rw [Nat.mul_comm, ← length_pixelsBetween]
  rw [Record.intersectionAddresses, List.length_filterMap_eq_countP]
  refine List.countP_eq_length.2 ?_
  rintro ⟨cx, cy⟩ hp
  exact ((r.mem_shared_iff q cx cy).1 (mem_pixelsBetween_iff.1 hp)).2

/-! ### The refusal slot (R21, R27) -/

theorem State.ensureSlot_of_open {s : State} (h : s.link.bitOpen = true) : s.ensureSlot = s := if_pos h

theorem exec_slotResult_of_slot {s : State} (hview : s.link.view = .burst) (hslot : s.link.atSlot = true) (l : Level) :
    exec (.slotResult l) s = .next (s.ensureSlot.sampleSlot l.bit).settle := by
  have hat : s.atRefusalSlot = true := by simp [State.atRefusalSlot, hview, hslot]
  exact if_pos hat

theorem State.beginSlot_link (s : State) :
    s.beginSlot.link.view = s.link.view ∧ s.beginSlot.link.atSlot = s.link.atSlot ∧ s.beginSlot.link.bitOpen = true := by
  unfold State.beginSlot
  split <;> exact ⟨rfl, rfl, rfl⟩

end Sys2Proof.Machine
end

section
/-! The statements of the slot result, the roster and the intersection: O35, O36, O37, O39 and O51. -/

namespace Sys2Proof.Proofs

open Sys2Proof.Machine Sys2Proof.Safety

/-- Settles O35: a slot that runs is sampled as it stands, and one that no command began begins as BIT_PERIOD_START begins it. -/
theorem slotResultActsOnBothSides : Obligations.SlotResultActsOnBothSides := by
  intro s l hview hslot
  refine ⟨fun hopen => ?_, fun hclosed t ht => ?_⟩
  · rw [exec_slotResult_of_slot hview hslot, State.ensureSlot_of_open hopen]
    cases l <;> rfl
  · have hstart : exec .bitPeriodStart s = .next s.beginSlot := by
      rw [exec_bitPeriodStart_of_burst hview, if_pos hslot, State.ensureSlot, hclosed]
      rfl
    obtain rfl : s.beginSlot = t := by
      rw [hstart] at ht
      exact Host.Outcome.next.inj ht
    obtain ⟨hview', hslot', hopen'⟩ := s.beginSlot_link
    rw [exec_slotResult_of_slot hview hslot, exec_slotResult_of_slot (hview'.trans hview) (hslot'.trans hslot),
      State.ensureSlot_of_open hopen', State.ensureSlot, hclosed]
    rfl

/-- Settles O36: the roster part, the content part and WELCOME pending in their order, each by its own equation. -/
theorem thePendingOutcomeIsCarriedOut : Obligations.ThePendingOutcomeIsCarriedOut := by
  intro s delivered
  refine ⟨fun hnone => by simp only [State.carryOut, hnone], fun o ho => ?_⟩
  have hroster : State.carryRoster { s with rx.outcome := none } o.identity o.roster =
      let c : RosterChange := match o.roster with
        | .heardOnly => { roster := s.roster, event := false, overflow := false }
        | .update => rosterOnBurst s.roster o.identity.sender o.identity.kind
        | .withdraw => rosterOnWithdraw s.roster o.identity.sender
      { s with
        rx.outcome := none
        roster := if o.roster = .withdraw then c.roster else
          c.roster.map fun e => if e.station = o.identity.sender then { e with heard := true } else e
        port := { s.port with
          events := if c.event then s.port.events ||| 0x040 else s.port.events
          counters := if c.overflow then { s.port.counters with rosterOverflow := saturate s.port.counters.rosterOverflow }
            else s.port.counters } } := by
    cases o.roster with
    | heardOnly => rfl
    | update => simp only [State.carryRoster, State.withRoster_port]; rfl
    | withdraw => simp only [State.carryRoster, State.withRoster_port]; rfl
  simp only [State.carryOut, ho, hroster, State.carryWelcome_eq]
  refine ⟨fun hc => ?_, fun e hc => ?_, fun hc hobserver => ?_, fun hc hother => ?_, fun tag look hc => ?_⟩
  · rw [hc]
    rfl
  · rw [hc]
    rfl
  · simp only [hc, State.carryContent, State.miss, if_pos hobserver] <;> rfl
  · simp only [hc, State.carryContent, State.miss, if_neg hother]
    by_cases hmissed : o.identity ∈ s.rx.missed
    · simp only [if_pos hmissed, Receiver.addMissed] <;> rfl
    · by_cases hroom : s.rx.missed.length < 4
      · simp only [if_neg hmissed, if_pos hroom]
        rw [Receiver.addMissed_of_room (x := { s.rx with outcome := none }) hmissed hroom] <;> rfl
      · simp only [if_neg hmissed, if_neg hroom]
        rw [Receiver.addMissed_of_full (x := { s.rx with outcome := none }) hmissed (Nat.not_lt.1 hroom)] <;> rfl
  · rw [hc]
    rfl

/-- Settles O37: the table for a sender that has an entry, the addition with and without room, the eviction, and the removal. -/
theorem rosterFollowsTheBursts : Obligations.RosterFollowsTheBursts := by
  refine ⟨?_, ?_, ?_, ?_⟩
  · intro roster n k hhas hwithdraw hjoin
    simp only [rosterOnBurst, if_pos (hasEntry_iff.2 hhas), RosterChange.mk.injEq, and_true]
    refine List.map_congr_left fun e _ => ?_
    by_cases hn : e.station = n
    · obtain ⟨station, state, overdue, silence, heard⟩ := e
      cases k with
      | withdraw => exact absurd rfl hwithdraw
      | join => exact absurd rfl hjoin
      | _ => cases state <;> simp_all [RosterEntry.onBurst]
    · rw [if_neg hn, if_pos (.inl hn)]
  · intro roster n k hnew hwithdraw hjoin hwelcome
    simp only [rosterOnBurst_of_newcomer hnew hwithdraw hjoin hwelcome]
    refine ⟨fun hroom => if_pos hroom, fun hfull hlaggard => ?_, ?_⟩
    · simp only [addEntry, Config.rosterCapacity, if_neg (Nat.not_lt.2 hfull), evictee_of_no_laggard hlaggard]
    · rintro hfull front v back rfl hnodup hv hfront hback
      simp only [addEntry, Config.rosterCapacity, if_neg (Nat.not_lt.2 hfull), evictee_of_highest hv hfront hback,
        filter_station_ne hnodup]
  · intro roster n hnew
    simp only [rosterOnBurst, hasEntry_eq_false hnew]
    rfl
  · intro roster n hnodup
    refine ⟨?_, fun hnew => ?_⟩
    · rintro front e back rfl rfl
      have hhas : hasEntry (front ++ e :: back) e.station = true := hasEntry_iff.2 ⟨e, by simp, rfl⟩
      simp only [rosterOnWithdraw, hhas, filter_station_ne hnodup]
    · have hall : roster.filter (fun e => decide (e.station ≠ n)) = roster :=
        List.filter_eq_self.2 fun e he => decide_eq_true (hnew e he)
      simp only [rosterOnWithdraw, hasEntry_eq_false hnew, hall]

/-- Settles O39. -/
theorem intersectionIsTheSharedPixels : Obligations.IntersectionIsTheSharedPixels := by
  intro r q hr
  refine ⟨?_, fun a => Record.mem_intersectionAddresses_iff, Record.nodup_intersectionAddresses hr q,
    r.length_intersectionAddresses q⟩
  rw [r.touches_iff]
  constructor
  · rintro ⟨hx, hy⟩
    obtain ⟨⟨hx1, hx2, hy1, hy2⟩, hat⟩ := (r.mem_shared_iff q _ _).1 ⟨⟨Nat.le_refl _, hx⟩, Nat.le_refl _, hy⟩
    obtain ⟨a, ha⟩ := Option.isSome_iff_exists.1 hat
    exact ⟨_, _, a, hx1, hx2, hy1, hy2, ha⟩
  · rintro ⟨cx, cy, a, hx1, hx2, hy1, hy2, ha⟩
    obtain ⟨⟨hx, hx'⟩, hy, hy'⟩ := (r.mem_shared_iff q cx cy).2 ⟨⟨hx1, hx2, hy1, hy2⟩, by rw [ha]; rfl⟩
    exact ⟨hx.trans_lt hx', hy.trans_lt hy'⟩

/-- Settles O51: each entry ages on its own, into one entry or none. -/
theorem agingAtTheSwapEdge : Obligations.AgingAtTheSwapEdge := by
  intro roster
  refine ⟨?_, rfl, ?_⟩
  · simp only [ageRoster, List.filterMap_eq_flatMap_toList, List.map_flatMap]
    refine List.flatMap_congr fun e _ => ?_
    obtain ⟨station, state, overdue, silence, heard⟩ := e
    cases state with
    | ended => rfl
    | idle => by_cases h : overdue < 2 <;> simp [RosterEntry.aged, h, Nat.lt_succ_iff.symm]
    | active => by_cases h : overdue < 2 <;> simp [RosterEntry.aged, h, Nat.lt_succ_iff.symm]
    | laggard =>
      cases heard with
      | true => rfl
      | false => by_cases h : silence < 7 <;> simp [RosterEntry.aged, h, Nat.lt_succ_iff.symm]
  · have hshows (e : RosterEntry) : e.agingShows = true ↔ (e.state = .idle ∨ e.state = .active) ∧ 2 ≤ e.overdue ∨
        e.state = .laggard ∧ e.heard = false ∧ 7 ≤ e.silence := by
      cases hstate : e.state <;> simp [RosterEntry.agingShows, hstate, Nat.succ_le_iff]
    simp only [ageRoster, List.any_eq_true, hshows]

end Sys2Proof.Proofs
end

section
/-! SUPPORT. The events on WLS and the timers: what an act beside a completion gives, the limits of the frame timer, the swap edge
with its marks of damage (04, 08, 09). -/

namespace Sys2Proof.Machine

open Sys2Proof.Safety

/-! ### Acts beside a completion (R28) -/

/-- An act beside a completion gives what it makes of the station, whatever the act on the other station. -/
theorem gives_beside_of_eq {f f' : State → State} {s : State} (g g' : State → State) (h : f s = f' s)
    (hundo : (f' s).rx.undo = s.rx.undo) : Gives (.next (s.beside f g)) (s.beside f' g') := by
  obtain ⟨x, hx, -⟩ := s.beside_eq f g
  obtain ⟨x', hx', -⟩ := s.beside_eq f' g'
  refine ⟨_, rfl, by rw [hx, hx', h]; rfl, fun hnone => ?_⟩
  have hs := State.undo_of_beside g' hundo hnone
  rw [State.beside_of_no_undo f g s hs, State.beside_of_no_undo f' g' s hs, h]

theorem gives_beside {f : State → State} {s : State} (g : State → State) (hundo : (f s).rx.undo = s.rx.undo) :
    Gives (.next (s.beside f g)) (f s) := by
  obtain ⟨x, hx, -⟩ := s.beside_eq f g
  exact ⟨_, rfl, by rw [hx]; rfl, fun hnone => State.beside_of_no_undo f g s (hundo ▸ hnone)⟩

theorem gives_beside_settle {f : State → State} {s t : State} (g : State → State) (h : f s = t.settleBlocks)
    (hundo : t.rx.undo = s.rx.undo) : Gives (.next (s.beside f g)) t.settle := by
  obtain ⟨x, hx, -⟩ := s.beside_eq f g
  obtain ⟨x', hx', -⟩ := t.settle_eq
  refine ⟨_, rfl, by rw [hx, hx', h]; rfl, fun hnone => ?_⟩
  have ht := State.undo_of_settle hnone
  rw [State.beside_of_no_undo f g s (hundo ▸ ht), h]
  exact (State.beside_of_no_undo _ _ t ht).symm

theorem gives_settle_beside {f : State → State} {s : State} (g : State → State) (hundo : (f s).rx.undo = s.rx.undo) :
    Gives (.next (s.beside f g).settle) (f s).settle := by
  obtain ⟨x, hx, -⟩ := s.beside_eq f g
  refine ⟨_, rfl, by rw [hx]; exact forgetting_settle_undo (f s) x, fun hnone => ?_⟩
  rw [State.beside_of_no_undo f g s (hundo ▸ State.undo_of_settle hnone)]

/-! ### Readiness and the limits (R56, R57, R59, R63) -/

theorem State.period_of_record {s : State} {r : Record} (h : s.record = some r) : s.period = r.framePeriod := by
  simp only [State.period, h]

theorem State.holdLimit_of_record {s : State} {r : Record} (h : s.record = some r) :
    s.holdLimit = r.holdMultiple * r.framePeriod := by
  simp only [State.holdLimit, h]

theorem State.stallLimit_of_record {s : State} {r : Record} (h : s.record = some r) :
    s.stallLimit = r.holdMultiple * r.framePeriod + r.framePeriod := by
  rw [State.stallLimit, State.holdLimit_of_record h, State.period_of_record h]

/-- The bounds that a valid record gives for the limits: P is positive, and H is two to eight times P. -/
theorem limits_of_valid {r : Record} (h : r.valid = true) :
    80 ≤ r.framePeriod ∧ 2 * r.framePeriod ≤ r.holdMultiple * r.framePeriod ∧
      r.holdMultiple * r.framePeriod ≤ 8000 := by
  obtain ⟨-, -, -, -, -, -, -, -, -, -, -, -, hp, hp', hm, hm', -⟩ := (valid_iff r).1 h
  exact ⟨hp, Nat.mul_le_mul_right _ hm, Nat.mul_le_mul hm' hp'⟩

theorem contributorsDone_iff (roster : List RosterEntry) :
    contributorsDone roster = true ↔ ∀ e ∈ roster, e.state ≠ .laggard → e.state = .ended := by
  simp only [contributorsDone, List.all_eq_true, Bool.or_eq_true, decide_eq_true_eq, ne_eq, or_iff_not_imp_left]

theorem State.publishingDone_iff (s : State) :
    s.publishingDone = true ↔ s.engine = .idle ∨ s.engine = .held ∨ s.engine = .blocked := by
  unfold State.publishingDone
  cases s.engine <;> simp

theorem FrameStore.settled_iff (f : FrameStore) :
    f.settled = true ↔ f.baseState = .steady ∧ f.overlayState = .steady ∧ f.request = none := by
  simp [FrameStore.settled, and_assoc]

theorem State.ready_iff (s : State) :
    s.ready = true ↔ s.period ≤ s.barrier.timer ∧ (∀ e ∈ s.roster, e.state ≠ .laggard → e.state = .ended) ∧
      (s.intake.queue = [] ∧ s.intake.committing = false) ∧
      (s.frame.baseState = .steady ∧ s.frame.overlayState = .steady ∧ s.frame.request = none) ∧
      (s.engine = .idle ∨ s.engine = .held ∨ s.engine = .blocked) := by
  simp only [State.ready, Bool.and_eq_true, decide_eq_true_eq, contributorsDone_iff, List.isEmpty_iff, Bool.not_eq_true',
    FrameStore.settled_iff, State.publishingDone_iff, and_assoc]

section

variable {s : State}

theorem State.react_of_filling (hm : s.join.station = .member) (hp : s.barrier.phase = some .filling) :
    s.react = if s.ready then s.releaseReady else s := by
  simp only [State.react, hm, hp, ne_eq, not_true_eq_false, if_false]

theorem State.react_of_answered (hp : s.barrier.phase = some .ready ∨ s.barrier.phase = some .stalled)
    (h : s.ready = true ∨ s.barrier.forced = true) : s.react = s := by
  have hor : (s.ready || s.barrier.forced) = true := Bool.or_eq_true _ _ ▸ h
  unfold State.react
  rcases hp with hp | hp <;> simp only [hp, hor, Bool.true_or, if_true, ite_self]

theorem State.react_of_lost_below (hm : s.join.station = .member) (hp : s.barrier.phase = some .ready) (hr : s.ready = false)
    (hf : s.barrier.forced = false) (h : s.barrier.timer < s.holdLimit) : s.react = s.rehold := by
  simp only [State.react, hm, hp, hr, hf, ne_eq, not_true_eq_false, if_false, Bool.or_self, Bool.false_eq_true, if_pos h]

theorem State.react_of_lost_above (hm : s.join.station = .member)
    (hp : s.barrier.phase = some .ready ∨ s.barrier.phase = some .stalled) (hr : s.ready = false) (hf : s.barrier.forced = false)
    (h : s.holdLimit ≤ s.barrier.timer) : s.react = s.setForced := by
  have hnot : ¬ s.barrier.timer < s.holdLimit := Nat.not_lt.2 h
  unfold State.react
  rcases hp with hp | hp <;>
    simp only [hm, hp, hr, hf, hnot, ne_eq, not_true_eq_false, if_false, Bool.or_self, decide_false, Bool.false_eq_true]

theorem State.reachPeriod_of_below (hrun : s.barrier.timerRunning = true) (h : s.barrier.timer < s.period) :
    s.reachPeriod = State.react { s with barrier.timer := s.period } := if_pos ⟨hrun, h⟩

theorem State.reachPeriod_of_reached (h : s.period ≤ s.barrier.timer) : s.reachPeriod = s :=
  if_neg fun hlt => absurd hlt.2 (Nat.not_lt.2 h)

theorem State.reachHold_of_filling (hrun : s.barrier.timerRunning = true) (hperiod : s.period ≤ s.barrier.timer)
    (h : s.barrier.timer < s.holdLimit) (hm : s.join.station = .member) (hp : s.barrier.phase = some .filling) :
    s.reachHold = State.releaseForced { s with barrier.timer := s.holdLimit } := by
  simp only [State.reachHold, State.reachPeriod_of_reached hperiod]
  rw [if_pos ⟨hrun, h⟩, if_pos ⟨hm, hp⟩]

theorem State.reachHold_of_released (hrun : s.barrier.timerRunning = true) (hperiod : s.period ≤ s.barrier.timer)
    (h : s.barrier.timer < s.holdLimit) (hp : s.barrier.phase ≠ some .filling) :
    s.reachHold = { s with barrier.timer := s.holdLimit } := by
  simp only [State.reachHold, State.reachPeriod_of_reached hperiod]
  rw [if_pos ⟨hrun, h⟩, if_neg fun hfilling => hp hfilling.2]

theorem State.reachHold_of_reached (hperiod : s.period ≤ s.barrier.timer) (h : s.holdLimit ≤ s.barrier.timer) :
    s.reachHold = s := by
  simp only [State.reachHold, State.reachPeriod_of_reached hperiod]
  exact if_neg fun hlt => absurd hlt.2 (Nat.not_lt.2 h)

theorem State.reachStall_of_ready (hrun : s.barrier.timerRunning = true) (hperiod : s.period ≤ s.barrier.timer)
    (hhold : s.holdLimit ≤ s.barrier.timer) (h : s.barrier.timer < s.stallLimit) (hm : s.join.station = .member)
    (hp : s.barrier.phase = some .ready) :
    s.reachStall = ({ s with barrier.timer := s.stallLimit, barrier.phase := some .stalled }.count .stalls).raise .stall := by
  simp only [State.reachStall, State.reachHold_of_reached hperiod hhold]
  rw [if_pos ⟨hrun, h⟩, if_pos ⟨hm, hp⟩]

theorem State.reachStall_of_not_ready (hrun : s.barrier.timerRunning = true) (hperiod : s.period ≤ s.barrier.timer)
    (hhold : s.holdLimit ≤ s.barrier.timer) (h : s.barrier.timer < s.stallLimit) (hp : s.barrier.phase ≠ some .ready) :
    s.reachStall = { s with barrier.timer := s.stallLimit } := by
  simp only [State.reachStall, State.reachHold_of_reached hperiod hhold]
  rw [if_pos ⟨hrun, h⟩, if_neg fun hready => hp hready.2]

theorem State.reachStall_of_reached (hperiod : s.period ≤ s.barrier.timer) (hhold : s.holdLimit ≤ s.barrier.timer)
    (h : s.stallLimit ≤ s.barrier.timer) : s.reachStall = s := by
  simp only [State.reachStall, State.reachHold_of_reached hperiod hhold]
  exact if_neg fun hlt => absurd hlt.2 (Nat.not_lt.2 h)

theorem State.releasedAtHold_iff :
    s.releasedAtHold = true ↔ s.barrier.timerRunning = true ∧ s.barrier.phase = some .ready ∧ s.barrier.forced = false ∧
      s.barrier.releaseTime = s.barrier.timer ∧ s.barrier.timer + 1 = s.holdLimit := by
  simp [State.releasedAtHold, and_assoc]

theorem State.holdReached_of_released (h : s.releasedAtHold = true) :
    s.holdReached = { s.reachHold with barrier.releaseTime := s.holdLimit } := if_pos h

theorem State.holdReached_of_not_released (h : ¬ s.releasedAtHold = true) : s.holdReached = s.reachHold := if_neg h

end

@[simp] theorem State.reachPeriod_rx (s : State) : s.reachPeriod.rx = s.rx := by
  obtain ⟨b, q, h⟩ := s.reachPeriod_blocks
  rw [h]

@[simp] theorem State.holdReached_rx (s : State) : s.holdReached.rx = s.rx := by
  obtain ⟨b, q, h⟩ := s.holdReached_blocks
  rw [h]

@[simp] theorem State.reachStall_rx (s : State) : s.reachStall.rx = s.rx := by
  obtain ⟨b, q, h⟩ := s.reachStall_blocks
  rw [h]

@[simp] theorem State.endRedrive_rx (s : State) : s.endRedrive.rx = s.rx := by
  obtain ⟨b, h⟩ := s.endRedrive_blocks
  rw [h]

@[simp] theorem State.tickFrame_join (s : State) : s.tickFrame.join = s.join := by
  obtain ⟨b, q, h⟩ := s.tickFrame_blocks
  rw [h]

/-! ### One unit of time (R54, R156) -/

theorem State.tickFrame_of_stopped {s : State} (h : s.barrier.timerRunning = false ∨ s.barrier.timer = 65535) : s.tickFrame = s := by
  refine if_neg ?_
  rintro ⟨hrun, hlt⟩
  rcases h with h | h
  · rw [h] at hrun
    cases hrun
  · rw [h] at hlt
    exact absurd hlt (Nat.lt_irrefl _)

theorem State.tickFrame_of_running {s : State} (hrun : s.barrier.timerRunning = true) (hlt : s.barrier.timer < 65535) :
    s.tickFrame =
      if s.barrier.timer + 1 = s.period then s.reachPeriod
      else if s.barrier.timer + 1 = s.holdLimit then s.reachHold
      else if s.barrier.timer + 1 = s.stallLimit then s.reachStall
      else { s with barrier.timer := s.barrier.timer + 1 } := if_pos ⟨hrun, hlt⟩

theorem State.tickWelcome_of_stopped {s : State} (h : s.join.welcomeWait = none) : s.tickWelcome = s := by
  simp only [State.tickWelcome, h]

theorem State.tickWelcome_of_running {s : State} {n : Nat} (h : s.join.welcomeWait = some n) :
    s.tickWelcome = if n + 1 < 2 * s.period then { s with join.welcomeWait := some (n + 1) } else s.expireBlocks := by
  simp only [State.tickWelcome, h]

/-- A step on an empty queue gives what the timers make of the station. -/
theorem gives_step_of_idle {s t : State} (hidle : s.pending = []) (h : s.tickFrame.tickWelcome = t) : Gives (step s) t := by
  subst h
  have hstep : step s = .next s.tick := by simp only [step, hidle]
  have hundo : s.tickFrame.tickWelcome.rx.undo = s.rx.undo := by
    obtain ⟨j, b, q, l, i, p, f, htick⟩ := s.tick_blocks
    rw [htick]
  rw [hstep]
  exact gives_beside _ hundo

/-- A step on an empty queue gives what a command of a limit answers, when the timers make the same of the station. -/
theorem gives_step_of_limit {s : State} {f : State → State} {c : Instr} (hidle : s.pending = [])
    (hexec : exec c s = .next (s.beside f f)) (h : s.tickFrame.tickWelcome = f s) (hundo : (f s).rx.undo = s.rx.undo) :
    ∃ t, exec c s = .next t ∧ Gives (step s) t := by
  have hstep : step s = .next s.tick := by simp only [step, hidle]
  refine ⟨_, hexec, ?_⟩
  rw [hstep]
  exact gives_beside_of_eq _ _ h hundo

/-! ### The swap edge, block by block (R66–R69) -/

theorem State.raiseIf_eq (s : State) (b : Bool) (e : Event) :
    s.raiseIf b e = { s with port.events := s.port.events ||| (if b then e.bit else 0) } := by
  cases b with
  | true => rfl
  | false => simp [State.raiseIf]

/-- The state of a layer at an edge: one that is not in its pass waits for the flip (R138). -/
def LayerState.pend (st : LayerState) : LayerState := if st = .preparing then .preparing else .flipPending

theorem FrameStore.stand_eq (f : FrameStore) (q : FlipRequest) :
    f.stand q = { f with request := some q, baseState := f.baseState.pend, overlayState := f.overlayState.pend } := by
  cases hb : f.baseState <;> cases ho : f.overlayState <;> simp [FrameStore.stand, LayerState.pend, hb, ho]

/-- The flip request after an edge: the one that stands is kept and a new one is made otherwise, with the note of damage set when the
mark of damage is made at once (R138, R141, R142). -/
def State.requestAtEdge (s : State) : FlipRequest :=
  let now := s.damagedAtEdge && !s.atLastRow
  match s.frame.request with
  | some q => { q with damage := q.damage || now }
  | none => { tag := s.barrier.fillTag, damage := now, heldCommit := s.intake.committing, passEnd := false }

theorem State.edgeMoves_port (s : State) :
    s.edgeMoves =
      { s with
        join := s.join.edge, barrier := s.barrierAtEdge, rx := s.rx.edge, roster := (ageRoster s.roster).roster
        intake := { s.intake with queue := s.intake.kept (nextTag s.barrier.fillTag) }
        frame := s.frame.edge s.barrier.fillTag s.intake.committing, pub := s.pub.edge
        port := { s.port with
          counters := { s.port.counters with
            swaps := saturate s.port.counters.swaps
            damaged := if s.damagedAtEdge then saturate s.port.counters.damaged else s.port.counters.damaged }
          events := s.port.events ||| (if (ageRoster s.roster).event then 0x040 else 0) |||
            (if s.join.station = .listening then 0x080 else 0) } } := by
  have hoverflow : (ageRoster s.roster).overflow = false := rfl
  simp only [State.edgeMoves, State.withRoster, State.raiseIf_eq, hoverflow]
  cases s.damagedAtEdge <;> by_cases hl : s.join.station = .listening <;>
    simp only [State.countIf, State.count, Counters.bump, hl, decide_true, decide_false, if_true, if_false,
      Bool.false_eq_true] <;> rfl

/-- A swap edge, block by block. -/
theorem State.swapEdge_eq (s : State) :
    s.swapEdge =
      { s.edgeMoves with
        frame := { s.frame with
          baseState := s.frame.baseState.pend, overlayState := s.frame.overlayState.pend
          markDue := s.frame.markDue || (s.damagedAtEdge && s.atLastRow), request := some s.requestAtEdge } } := by
  have hframe : s.edgeMoves.frame = s.frame.edge s.barrier.fillTag s.intake.committing := by rw [s.edgeMoves_port]
  have hsame (f : FrameStore) (h : s.edgeMoves.frame = f) : s.edgeMoves = { s.edgeMoves with frame := f } := by rw [← h]
  rw [FrameStore.edge, FrameStore.stand_eq] at hframe
  unfold State.swapEdge State.markDamage State.requestAtEdge
  rw [hframe]
  cases hd : s.damagedAtEdge with
  | false =>
    simp only [Bool.false_and, Bool.or_false, Bool.false_eq_true, if_false]
    refine (hsame _ hframe).trans ?_
    cases hq : s.frame.request <;> simp
  | true =>
    cases hlast : s.atLastRow <;> cases hq : s.frame.request <;> simp [hframe, hq]

end Sys2Proof.Machine
end

section
/-! The statements of the sync line, the swap edge and the timers: O3, O49, O50, O52, O53 and O54. -/

namespace Sys2Proof.Proofs

open Sys2Proof.Machine Sys2Proof.Safety

/-- Settles O52. -/
theorem theOtherEventsOnTheSyncLine : Obligations.TheOtherEventsOnTheSyncLine := by
  intro s
  have hredrive : exec .redriveDelay s = .next (s.beside State.endRedrive State.endRedrive) := rfl
  have hgives (t : State) (h : s.endRedrive = t) : Gives (exec .redriveDelay s) t := by
    rw [hredrive, ← h]
    exact gives_beside _ (by rw [State.endRedrive_rx])
  refine ⟨fun hstation hhigh => ?_, fun l hstation hnone => if_pos ⟨hstation, hnone⟩, fun l hstarting => ?_,
    gives_beside (f := State.clearFaultWatch) _ rfl, fun hrun hm hp => hgives _ ?_, fun hrun hnot => hgives _ ?_,
    fun hrun => hgives _ ?_⟩
  · have hexec : exec .confirmedFall s = .next (s.beside State.takeFall State.takeFall) := if_pos ⟨hstation, hhigh⟩
    have hfall : s.takeFall =
        { s with barrier := { s.barrier with confirmed := some .low, faultWatch := false }
                 join.quietLow := if s.join.station = .listening then true else s.join.quietLow } := by
      unfold State.takeFall
      by_cases hl : s.join.station = .listening <;> simp [hl]
    rw [hexec, ← hfall]
    exact gives_beside _ rfl
  · exact ⟨if_neg fun h => h.1 hstarting, if_neg fun h => h.1 hstarting, if_neg fun h => h.1 hstarting⟩
  · simp [State.endRedrive, hrun, hm, hp]
  · have hnotboth : ¬ (s.join.station = .member ∧ s.barrier.phase = some .filling) := fun h => hnot.elim (· h.1) (· h.2)
    simp [State.endRedrive, hrun, hnotboth]
  · simp [State.endRedrive, hrun]

/-- Settles O50: the rise of each station state and phase, and the settling of what it leads to. -/
theorem aConfirmedRiseByStationState : Obligations.AConfirmedRiseByStationState := by
  intro s hstation hlow
  have hgives (t : State) (h : State.riseBlocks { s with barrier.confirmed := some .high } = t) :
      Gives (exec .confirmedRise s) t.settle := by
    have hexec : exec .confirmedRise s = .next (State.takeRise { s with barrier.confirmed := some .high }).settle :=
      if_pos ⟨hstation, hlow⟩
    rw [hexec, ← h]
    exact gives_settle_beside _ (State.riseBlocks_undo _)
  refine ⟨fun hm hp => hgives _ ?_, fun ho => hgives _ ?_, fun hl ha => hgives _ ?_, fun hl ha => hgives _ ?_,
    fun hm hp hd hf => hgives _ ?_, fun hm hp hor => hgives _ ?_, fun hother => hgives _ ?_⟩
  · rcases hp with hp | hp <;> simp only [State.riseBlocks, hm, hp]
  · simp only [State.riseBlocks, ho]
  · obtain ⟨a, ha⟩ := Option.isSome_iff_exists.1 ha
    simp only [State.riseBlocks, hl, ha]
  · simp only [State.riseBlocks, hl, ha]
  · simp only [State.riseBlocks, hm, hp, hd, if_true, State.electricalFault, hf]
    rfl
  · simp only [State.riseBlocks, hm, hp]
    rcases hor with hd | hf
    · simp [hd]
    · simp [State.electricalFault, hf]
  · rcases hother with h | h | h <;> simp only [State.riseBlocks, h]

/-- Settles O53. -/
theorem releaseReholdForceAndStall : Obligations.ReleaseReholdForceAndStall := by
  intro s r hrecord hvalid hm hrun P H force release
  obtain ⟨hP, hPH, -⟩ := limits_of_valid hvalid
  have hperiod : s.period = P := State.period_of_record hrecord
  have hhold : s.holdLimit = H := State.holdLimit_of_record hrecord
  have hstall : s.stallLimit = H + P := State.stallLimit_of_record hrecord
  have hPH : 2 * P ≤ H := hPH
  have hP : 80 ≤ P := hP
  have hforce (x : State) : x.setForced = force x := rfl
  have hrelease (x : State) : x.releaseReady = release x := rfl
  have hgivesPeriod (t : State) (h : s.reachPeriod = t) : Gives (exec .framePeriod s) t :=
    h ▸ gives_beside (f := State.reachPeriod) _ (by rw [State.reachPeriod_rx])
  have hgivesHold (x t : State) (h : x.holdReached = t) : Gives (exec .holdLimit x) t :=
    h ▸ gives_beside (f := State.holdReached) _ (by rw [State.holdReached_rx])
  have hgivesStall (t : State) (h : s.reachStall = t) : Gives (exec .stallLimit s) t :=
    h ▸ gives_beside (f := State.reachStall) _ (by rw [State.reachStall_rx])
  refine ⟨hperiod ▸ s.ready_iff, fun hp hr => ⟨?_, ?_⟩, fun hp hr => ?_, fun hp hr hf hlt => ?_, fun hp hr hf hle => ?_,
    fun hp h => State.react_of_answered hp h, fun hlt => hgivesPeriod _ ?_, fun hle => hgivesPeriod _ ?_,
    fun hle hlt hp => hgivesHold _ _ ?_, fun hp hf hr hnext => hgivesHold _ _ ?_, fun hp hf htime hnext => hgivesHold _ _ ?_,
    fun hle hlt hp hnot => hgivesHold _ _ ?_, fun hle => hgivesHold _ _ ?_, fun hle hlt hp => hgivesStall _ ?_,
    fun hle hlt hp => hgivesStall _ ?_, fun hle => hgivesStall _ ?_⟩
  · rw [State.react_of_filling hm hp, hr]
    exact hrelease s
  · exact hperiod ▸ (s.ready_iff.1 hr).1
  · rw [State.react_of_filling hm hp, hr]
    rfl
  · exact State.react_of_lost_below hm hp hr hf (hhold ▸ hlt)
  · exact (State.react_of_lost_above hm hp hr hf (hhold ▸ hle)).trans (hforce s)
  · rw [State.reachPeriod_of_below hrun (hperiod ▸ hlt), hperiod]
  · exact State.reachPeriod_of_reached (hperiod ▸ hle)
  · have hnot : ¬ s.releasedAtHold = true := fun h => by
      have hready := (State.releasedAtHold_iff.1 h).2.1
      rw [hp] at hready
      cases hready
    rw [State.holdReached_of_not_released hnot, State.reachHold_of_filling hrun (hperiod ▸ hle) (hhold ▸ hlt) hm hp, hhold]
    rfl
  · have hPtimer : s.period ≤ s.barrier.timer := (s.ready_iff.1 hr).1
    have hreact : s.react = s.releaseReady := by rw [State.react_of_filling hm hp, hr]; rfl
    have hlimit : s.releaseReady.holdLimit = H := hhold
    have hreleased : s.releaseReady.releasedAtHold = true :=
      State.releasedAtHold_iff.2 ⟨hrun, rfl, hf, rfl, hnext.trans hlimit.symm⟩
    rw [hreact, State.holdReached_of_released hreleased,
      State.reachHold_of_released (s := s.releaseReady) hrun hPtimer (by rw [hlimit]; exact hnext ▸ Nat.lt_succ_self _)
        (by simp), hlimit]
    rfl
  · have hreleased : s.releasedAtHold = true := State.releasedAtHold_iff.2 ⟨hrun, hp, hf, htime, hnext.trans hhold.symm⟩
    rw [State.holdReached_of_released hreleased,
      State.reachHold_of_released hrun (by omega) (by omega) (by rw [hp]; simp), hhold]
  · have hnotReleased : ¬ s.releasedAtHold = true := fun h => by
      obtain ⟨-, hready, hforced, htime, hnext⟩ := State.releasedAtHold_iff.1 h
      rcases hnot with hn | hn | hn | hn
      · exact hn hready
      · rw [hforced] at hn
        cases hn
      · exact hn htime
      · omega
    rw [State.holdReached_of_not_released hnotReleased, State.reachHold_of_released hrun (by omega) (by omega) hp, hhold]
  · have hnotReleased : ¬ s.releasedAtHold = true := fun h => by
      obtain ⟨-, -, -, -, hnext⟩ := State.releasedAtHold_iff.1 h
      omega
    rw [State.holdReached_of_not_released hnotReleased, State.reachHold_of_reached (by omega) (by omega)]
  · rw [State.reachStall_of_ready hrun (by omega) (by omega) (by omega) hm hp, hstall]
    rfl
  · rw [State.reachStall_of_not_ready hrun (by omega) (by omega) (by omega) hp, hstall]
  · exact State.reachStall_of_reached (by omega) (by omega) (by omega)

/-- Settles O54: the three branches of the expiry, each settled. -/
theorem theWelcomeWaitEndsInThreeWays : Obligations.TheWelcomeWaitEndsInThreeWays := by
  intro s hl hwait
  have hgives (t : State) (h : s.welcomeExpired = t) : Gives (exec .welcomeWait s) t.settle := by
    subst h
    obtain ⟨j, b, q, hexpired⟩ := s.welcomeExpired_blocks
    exact gives_beside_settle (f := State.expireBlocks) _ (if_pos ⟨hl, hwait⟩) (by rw [hexpired])
  refine ⟨fun hq hb => hgives _ ?_, fun hq hb => hgives _ ?_, fun hq => hgives _ ?_⟩
  · simp only [State.welcomeExpired, hq, hb, if_true]
  · simp only [State.welcomeExpired, hq, hb, if_true, Nat.lt_irrefl, if_false]
  · have hfound : s.welcomeExpired = s.found := if_neg (by rw [hq]; exact Bool.false_ne_true)
    exact hfound

/-- Settles O3: each timer's unit, and at a limit what the command of the limit does. -/
theorem idleStepCountsTheTimers : Obligations.IdleStepCountsTheTimers := by
  intro s r hidle hrecord hvalid
  obtain ⟨hP, hPH, -⟩ := limits_of_valid hvalid
  have hperiod : s.period = r.framePeriod := State.period_of_record hrecord
  have hhold : s.holdLimit = r.holdMultiple * r.framePeriod := State.holdLimit_of_record hrecord
  have hstall : s.stallLimit = r.holdMultiple * r.framePeriod + r.framePeriod := State.stallLimit_of_record hrecord
  have htick (hwait : s.join.welcomeWait = none) : s.tickFrame.tickWelcome = s.tickFrame :=
    State.tickWelcome_of_stopped (by rw [State.tickFrame_join]; exact hwait)
  refine ⟨fun hstop hwait => gives_step_of_idle hidle ?_, fun _ hwait hmax => gives_step_of_idle hidle ?_,
    fun hrun hwait hlt => ⟨fun hn => ?_, fun hn => ⟨fun hnot => ?_, fun hp => gives_step_of_idle hidle ?_⟩, fun hn => ?_,
      fun hn1 hn2 hn3 => gives_step_of_idle hidle ?_⟩, fun n hstop hwait => ⟨fun hn => gives_step_of_idle hidle ?_, fun hn => ?_⟩⟩
  · rw [htick hwait, State.tickFrame_of_stopped (.inl hstop)]
  · rw [htick hwait, State.tickFrame_of_stopped (.inr hmax)]
  · refine gives_step_of_limit (f := State.reachPeriod) hidle rfl ?_ (by rw [State.reachPeriod_rx])
    rw [htick hwait, State.tickFrame_of_running hrun hlt, if_pos (hn.trans hperiod.symm)]
  · refine gives_step_of_limit (f := State.holdReached) hidle rfl ?_ (by rw [State.holdReached_rx])
    have hnotReleased : ¬ s.releasedAtHold = true := fun h => by
      obtain ⟨-, hready, hforced, htime, -⟩ := State.releasedAtHold_iff.1 h
      rcases hnot with hn | hn | hn
      · exact hn hready
      · rw [hforced] at hn
        cases hn
      · exact hn htime
    rw [htick hwait, State.tickFrame_of_running hrun hlt, if_neg (by omega), if_pos (hn.trans hhold.symm),
      State.holdReached_of_not_released hnotReleased]
  · rw [htick hwait, State.tickFrame_of_running hrun hlt, if_neg (by omega), if_pos (hn.trans hhold.symm),
      State.reachHold_of_released hrun (by omega) (by omega) (by rw [hp]; simp), hhold, hn]
  · refine gives_step_of_limit (f := State.reachStall) hidle rfl ?_ (by rw [State.reachStall_rx])
    rw [htick hwait, State.tickFrame_of_running hrun hlt, if_neg (by omega), if_neg (by omega), if_pos (hn.trans hstall.symm)]
  · rw [htick hwait, State.tickFrame_of_running hrun hlt, if_neg (by omega), if_neg (by omega), if_neg (by omega)]
  · rw [State.tickFrame_of_stopped (.inl hstop), State.tickWelcome_of_running hwait, if_pos (by omega)]
  · refine gives_step_of_limit (f := State.expireBlocks) hidle rfl ?_ (by rw [State.expireBlocks_rx])
    rw [State.tickFrame_of_stopped (.inl hstop), State.tickWelcome_of_running hwait, if_neg (by omega)]

/-- Settles O49: the edge block by block, its damage from what every block loses, and the marks that are left. -/
theorem theSwapEdgeInEveryBlock : Obligations.TheSwapEdgeInEveryBlock := by
  intro s hstation opening stays queue lost damaged aged member pend last edge
  have hqueue : s.intake.kept (nextTag s.barrier.fillTag) = queue := by
    have hstays : (fun x : IntakeEntry => decide (some x.tag = nextTag s.barrier.fillTag)) = stays :=
      funext fun e => decide_eq_decide.2 eq_comm
    unfold Intake.kept
    rw [hstays]
    cases hq : s.intake.queue <;> cases hc : s.intake.committing <;> simp [queue, hq, hc]
  have hlost : s.rx.losesAtEdge = lost := by
    unfold Receiver.losesAtEdge
    cases ho : s.rx.outcome with
    | none => simp only [lost, ho]
    | some o => cases hc : o.content <;> simp only [lost, ho, hc] <;> rfl
  have hdamaged : s.damagedAtEdge = damaged := by
    have hmissed : (!s.rx.missed.isEmpty) = decide (s.rx.missed ≠ []) := by cases s.rx.missed <;> rfl
    simp only [State.damagedAtEdge, hqueue, hlost, hmissed]
    rfl
  have hlast : s.atLastRow = last := by
    unfold State.atLastRow
    cases hr : s.record <;> cases hsc : s.frame.scan <;> simp only [last, hr, hsc]
  have hjoin : s.join.edge = edge.join := by
    unfold Join.edge
    by_cases hl : s.join.station = .listening <;> simp [edge, hl]
  have hrx : s.rx.edge = edge.rx := by
    have houtcome : s.rx.outcome.map PendingOutcome.atEdge = edge.rx.outcome := by
      cases ho : s.rx.outcome with
      | none => simp only [edge, ho, Option.map_none]
      | some o =>
        cases hc : o.content <;> cases hr : o.roster <;>
          simp [edge, lost, ho, hc, hr, PendingOutcome.atEdge, ContentPart.lostAtEdge]
    unfold Receiver.edge
    rw [houtcome]
  have hbarrier : s.barrierAtEdge = edge.barrier := by
    unfold State.barrierAtEdge State.cadenceAtEdge
    rw [hdamaged]
    by_cases ho : s.join.station = .observer <;> simp [edge, opening, member, nextTag, Barrier.release, ho]
  have hpub : s.pub.edge = edge.pub := by
    unfold Publisher.edge
    cases hq : s.pub.queue <;> simp only [edge, hq]
  have hrequest : s.requestAtEdge = match s.frame.request with
      | some q => { q with damage := q.damage || (damaged && !last) }
      | none => { tag := s.barrier.fillTag, damage := damaged && !last, heldCommit := s.intake.committing, passEnd := false } := by
    unfold State.requestAtEdge
    rw [hdamaged, hlast]
  refine ⟨hdamaged, ?_, fun t => ⟨fun hno => ?_, fun q hdue hq => ?_, fun hdue hnone => ?_⟩⟩
  · rw [State.swapEdge_eq, State.edgeMoves_port, hjoin, hrx, hbarrier, hpub, hqueue, hdamaged, hlast, hrequest] <;> rfl
  · simp only [State.makeMarks, hno, Bool.false_eq_true, if_false]
  · simp only [State.makeMarks, hdue, if_true, State.markDamage, hq]
  · simp only [State.makeMarks, hdue, if_true, State.markDamage, hnone] <;> rfl

end Sys2Proof.Proofs
end

section
/-! SUPPORT. The classification at completion, case by case; what a completion keeps for a truncation, before and after the settling
that follows it (03, 06, 09). -/

namespace Sys2Proof.Machine

open Sys2Proof.Safety

/-! ### Settling in a burst (R57, R103, R120, R139) -/

/-- Settling raises SHOWN, DAMAGE and OVERDUE alone. -/
theorem State.settleBlocks_flag (s : State) {n : Nat} (hn : 3 ≤ n) :
    s.settleBlocks.port.events.getLsbD n = s.port.events.getLsbD n := by
  have hbit (e : Event) (he : e = .shown ∨ e = .damage ∨ e = .overdue) (t : State) :
      (t.raise e).port.events.getLsbD n = t.port.events.getLsbD n := by
    have hlow : e.bit.getLsbD n = false := by
      have hlt : e.bit.toNat < 2 ^ 3 := by rcases he with rfl | rfl | rfl <;> decide
      rw [← BitVec.testBit_toNat]
      exact Nat.testBit_lt_two_pow (hlt.trans_le (Nat.pow_le_pow_right (by decide) hn))
    rw [State.raise_port_events, BitVec.getLsbD_or, hlow, Bool.or_false]
  have hflip : s.tryFlip.port.events.getLsbD n = s.port.events.getLsbD n := by
    rcases s.tryFlip_cases with ⟨h, -⟩ | ⟨r, q, -, -, -, h⟩
    · rw [h]
    · rw [h]
      rcases State.raiseIf_cases (State.raise { s with frame := s.frame.flip r q } .shown) q.damage .damage with h | h <;> rw [h]
      · exact hbit .shown (by simp) _
      · exact (hbit .damage (by simp) _).trans (hbit .shown (by simp) _)
  have hreact (t : State) : t.react.port.events.getLsbD n = t.port.events.getLsbD n := by
    rcases t.react_cases with ⟨h, -⟩ | ⟨-, -, -, h⟩ | ⟨-, -, -, -, -, h⟩ | ⟨-, -, -, -, -, h⟩ <;> rw [h]
    · rfl
    · rfl
    · exact hbit .overdue (by simp) _
  rw [State.settleBlocks, State.arbitrate_port, hreact, State.beginCommit_port, hflip]

/-- Settling counts FORCED alone. -/
theorem State.settleBlocks_counters (s : State) :
    ∃ v, s.settleBlocks.port.counters = { s.port.counters with forced := v } := by
  have hflip : s.tryFlip.port.counters = s.port.counters := by
    rcases s.tryFlip_cases with ⟨h, -⟩ | ⟨r, q, -, -, -, h⟩ <;> rw [h]
    rcases State.raiseIf_cases (State.raise { s with frame := s.frame.flip r q } .shown) q.damage .damage with h | h <;> rw [h] <;> rfl
  have hreact (t : State) : ∃ v, t.react.port.counters = { t.port.counters with forced := v } := by
    rcases t.react_cases with ⟨h, -⟩ | ⟨-, -, -, h⟩ | ⟨-, -, -, -, -, h⟩ | ⟨-, -, -, -, -, h⟩ <;> rw [h] <;> exact ⟨_, rfl⟩
  obtain ⟨v, hv⟩ := hreact s.tryFlip.beginCommit
  rw [State.settleBlocks, State.arbitrate_port, hv, State.beginCommit_port, hflip]
  exact ⟨v, rfl⟩

/-- No transmission begins in a burst. -/
theorem State.settleBlocks_of_burst {s : State} (h : s.link.view = .burst) :
    s.settleBlocks = s.tryFlip.beginCommit.react := by
  refine State.arbitrate_of_busy fun hfree => ?_
  rw [State.react_link, State.beginCommit_link, State.tryFlip_link, h] at hfree
  rcases hfree.1 with hview | hview <;> cases hview

theorem State.settleBlocks_pub_of_burst {s : State} (h : s.link.view = .burst) : s.settleBlocks.pub = s.pub := by
  rw [State.settleBlocks_of_burst h, State.react_pub, State.beginCommit_pub, State.tryFlip_pub]

theorem State.settleBlocks_link_of_burst {s : State} (h : s.link.view = .burst) : s.settleBlocks.link = s.link := by
  rw [State.settleBlocks_of_burst h, State.react_link, State.beginCommit_link, State.tryFlip_link]

/-- A station outside MEMBER has no barrier that responds. -/
theorem State.settleBlocks_barrier_of_other {s : State} (h : s.join.station ≠ .member) : s.settleBlocks.barrier = s.barrier := by
  have hreact : s.tryFlip.beginCommit.react = s.tryFlip.beginCommit :=
    if_pos (by rw [State.beginCommit_join, State.tryFlip_join]; exact h)
  rw [State.settleBlocks, hreact, State.arbitrate_barrier, State.beginCommit_barrier, State.tryFlip_barrier]

/-- What settling makes of the blocks, it makes of them with anything kept of a completion. -/
theorem State.settle_blocks (s : State) :
    s.settle.join = s.settleBlocks.join ∧ s.settle.link = s.settleBlocks.link ∧ s.settle.barrier = s.settleBlocks.barrier ∧
      s.settle.pub = s.settleBlocks.pub ∧ s.settle.port = s.settleBlocks.port := by
  obtain ⟨x, h, -⟩ := s.settle_eq
  rw [h]
  exact ⟨rfl, rfl, rfl, rfl, rfl⟩

theorem State.settle_stale (s : State) : s.settle.port.counters.stale = s.port.counters.stale := by
  obtain ⟨-, -, -, -, hport⟩ := s.settle_blocks
  obtain ⟨v, hv⟩ := s.settleBlocks_counters
  rw [hport, hv]

theorem forgetting_settle_congr {s t : State} (h : forgetting s = forgetting t) : forgetting s.settle = forgetting t.settle := by
  rw [← forgetting_settle_undo s none, ← forgetting_settle_undo t none]
  exact congrArg (fun u : State => forgetting u.settle) h

/-! ### What a completion keeps for a truncation (R28) -/

/-- The station `t` that a completion makes of `s`, with what a truncation would take back. -/
def State.keepCompletion (s t : State) : State :=
  { t with rx.undo := some { s.undoBeside t with
      blocks := if t.join = s.join ∧ t.barrier = s.barrier then none
        else some (s.blocksBeside t (decide (t.join.station ≠ s.join.station))) } }

theorem forgetting_keepCompletion_congr {s s' t t' : State} (h : t = t') :
    forgetting (s.keepCompletion t) = forgetting (s'.keepCompletion t') := by
  rw [h]
  rfl

theorem State.complete_of_record {s : State} {r : Record} (hr : s.record = some r) :
    s.complete =
      s.keepCompletion (State.classify { s with link := { s.link with atSlot := true } } r s.pub.transmission.isSome) := by
  unfold State.complete
  rw [hr]
  rfl

theorem exec_completion_of_canComplete {s : State} {l : Level} {r : Record} (h : CanComplete s l) (hr : s.record = some r) :
    exec (.completion l) s =
      .next (s.keepCompletion ((completed s l).classify r s.pub.transmission.isSome)).settle := by
  obtain ⟨hview, hslot, hopen, hlast, -, hsending⟩ := h
  have hready : s.takingBits = true ∧ s.rx.atLastBit = true ∧ (s.sending = none ∨ s.sending = some l.bit) :=
    ⟨State.takingBits_of hview hslot, hlast, by rw [Level.bit_eq]; exact hsending⟩
  have hexec : exec (.completion l) s = .next (s.ensureBit.takeBit l.bit).settle := if_pos hready
  rw [hexec, State.ensureBit_of_open hopen, Level.bit_eq]
  exact congrArg (fun t => Host.Outcome.next (State.settle t)) ((if_pos hlast).trans (State.complete_of_record hr))

/-- A completion that changed neither the Join Controller nor the Barrier Unit keeps its counts and event flags alone. -/
theorem State.keepCompletion_of_same {s t : State} (hjoin : t.join = s.join) (hbarrier : t.barrier = s.barrier) :
    s.keepCompletion t = { t with rx.undo := some (s.undoBeside t) } := by
  rw [State.keepCompletion, if_pos ⟨hjoin, hbarrier⟩]
  rfl

/-- A completion whose classification changes neither of the two blocks. -/
theorem exec_completion_of_unchanged {s : State} {l : Level} {r : Record} (hcan : CanComplete s l) (hr : s.record = some r)
    {t : State} {x : Undo} (ht : (completed s l).classify r s.pub.transmission.isSome = t) (hjoin : t.join = s.join)
    (hbarrier : t.barrier = s.barrier) (hundo : s.undoBeside t = x) :
    exec (.completion l) s = .next (State.settle { t with rx.undo := some x }) := by
  rw [exec_completion_of_canComplete hcan hr, ht, State.keepCompletion_of_same hjoin hbarrier, hundo]

theorem State.undoBeside_of_same {s t : State} (h : t.port = s.port) : s.undoBeside t = ⟨0, 0, 0, 0, 0, 0, none⟩ := by
  simp [State.undoBeside, h]

theorem saturate_sub (v : BitVec 16) : saturate v - v = if v = 0xFFFF then 0 else 1 := by
  unfold saturate
  split
  · exact BitVec.sub_self v
  · bv_omega

theorem State.undoBeside_of_checkFail {s t : State} (h : t.port = (s.count .checkFails).port) :
    s.undoBeside t = ⟨0, 0, 0, 0, if s.port.counters.checkFails = 0xFFFF then 0 else 1, 0, none⟩ := by
  rw [← saturate_sub]
  simp [State.undoBeside, h, State.count, Counters.bump]

theorem State.undoBeside_of_stale {s t : State} (h : t.port = (s.count .stale).port) :
    s.undoBeside t = ⟨0, 0, 0, 0, 0, if s.port.counters.stale = 0xFFFF then 0 else 1, none⟩ := by
  rw [← saturate_sub]
  simp [State.undoBeside, h, State.count, Counters.bump]

/-- Taking a completion back at once leaves the blocks as they were. -/
theorem State.undoCompletion_keepCompletion (s t : State) :
    (s.keepCompletion t).undoCompletion.join = s.join ∧
      (s.keepCompletion t).undoCompletion.barrier =
        { s.barrier with confirmed := t.barrier.confirmed, cadence := t.barrier.cadence } ∧
      (s.keepCompletion t).undoCompletion.port.events &&& Undo.flags = s.port.events &&& Undo.flags ∧
      (t.join.station ≠ s.join.station → (s.keepCompletion t).undoCompletion.pub =
        { s.pub with staging := t.pub.staging, transmission := t.pub.transmission }) := by
  by_cases hsame : t.join = s.join ∧ t.barrier = s.barrier
  · obtain ⟨hjoin, hbarrier⟩ := hsame
    rw [State.keepCompletion_of_same hjoin hbarrier]
    refine ⟨hjoin, ?_, events_putBack _ _, fun hne => absurd (congrArg Join.station hjoin) hne⟩
    rw [← hbarrier]
    rfl
  · rw [State.keepCompletion, if_neg hsame]
    refine ⟨rfl, rfl, events_putBack _ _, fun hne => ?_⟩
    simp [State.undoCompletion, State.putBack, State.putBackBlocks, State.blocksBeside, hne]

/-- Taking a completion back after what it led to leaves the Join Controller, the tag, the timer and the flags that settling does not
raise as they were, and in a burst the Publisher of a station that it made another. -/
theorem State.undoCompletion_settle (s t : State) :
    (s.keepCompletion t).settle.undoCompletion.join = s.join ∧
      (s.keepCompletion t).settle.undoCompletion.barrier.fillTag = s.barrier.fillTag ∧
      (s.keepCompletion t).settle.undoCompletion.barrier.timer = s.barrier.timer ∧
      (∀ n, Undo.flags.getLsbD n = true → 3 ≤ n →
        (s.keepCompletion t).settle.undoCompletion.port.events.getLsbD n = s.port.events.getLsbD n) ∧
      (t.link.view = .burst → t.join.station ≠ s.join.station → (s.keepCompletion t).settle.undoCompletion.pub =
        { s.pub with staging := t.pub.staging, transmission := t.pub.transmission }) := by
  obtain ⟨hjoin, hbarrier, hevents, hpub⟩ := s.undoCompletion_keepCompletion t
  have hflag (a b : BitVec 11) (n : Nat) (h : a &&& Undo.flags = b &&& Undo.flags) (hn : Undo.flags.getLsbD n = true) :
      a.getLsbD n = b.getLsbD n := by
    have hbit := congrArg (fun x => x.getLsbD n) h
    simpa only [BitVec.getLsbD_and, hn, Bool.and_true] using hbit
  by_cases hsame : t.join = s.join ∧ t.barrier = s.barrier
  · obtain ⟨htj, htb⟩ := hsame
    rw [State.keepCompletion_of_same htj htb]
    have hsettle : State.settle { t with rx.undo := some (s.undoBeside t) } =
        State.settleBlocks { t with rx.undo := some (s.undoBeside t) } := by
      obtain ⟨x, -, h⟩ := State.settle_eq { t with rx.undo := some (s.undoBeside t) }
      exact h fun u hu => by cases hu; rfl
    rw [hsettle, State.settleBlocks_undo]
    refine ⟨?_, ?_, ?_, fun n hn h3 => ?_, fun _ hne => absurd (congrArg Join.station htj) hne⟩
    · exact (congrArg State.join (show _ = State.putBack _ (s.undoBeside t) from rfl)).trans
        (((State.putBack_of_no_blocks _ _ rfl).1.trans (by simp [State.settleBlocks])).trans htj)
    · have hb := (State.putBack_of_no_blocks { t.settleBlocks with rx.undo := some (s.undoBeside t) } (s.undoBeside t) rfl).2.1
      exact (congrArg Barrier.fillTag hb).trans (by simp [State.settleBlocks, htb])
    · have hb := (State.putBack_of_no_blocks { t.settleBlocks with rx.undo := some (s.undoBeside t) } (s.undoBeside t) rfl).2.1
      exact (congrArg Barrier.timer hb).trans (by simp [State.settleBlocks, htb])
    · have hput : (State.undoCompletion { t.settleBlocks with rx.undo := some (s.undoBeside t) }).port.events =
          (t.settleBlocks.port.events &&& ~~~((t.port.events &&& ~~~s.port.events) &&& Undo.flags)) |||
            ((s.port.events &&& ~~~t.port.events) &&& Undo.flags) :=
        State.putBack_events { t.settleBlocks with rx.undo := some (s.undoBeside t) } (s.undoBeside t)
      have hback := hflag _ _ n (events_putBack t.port.events s.port.events) hn
      rw [hput, ← hback]
      simp only [BitVec.getLsbD_or, BitVec.getLsbD_and, BitVec.getLsbD_not, State.settleBlocks_flag t h3]
  · have hu : (s.keepCompletion t).rx.undo = some { s.undoBeside t with
        blocks := some (s.blocksBeside t (decide (t.join.station ≠ s.join.station))) } := by
      rw [State.keepCompletion, if_neg hsame]
    obtain ⟨q, p, rfl, rfl, hqjoin, hqbarrier, -, hqevents, hqpub, -⟩ :=
      State.undoCompletion_beside State.settleBlocks State.settleBlocks _ _ _ hu rfl
    rw [show (s.keepCompletion t).beside State.settleBlocks State.settleBlocks = (s.keepCompletion t).settle from rfl]
      at hqjoin hqbarrier hqevents hqpub
    refine ⟨?_, ?_, ?_, fun n hn h3 => ?_, fun hview hne => ?_⟩
    · rw [hqjoin, ← hjoin]
      simp [State.settleBlocks]
    · rw [hqbarrier]
      simp [State.settleBlocks, hbarrier]
    · rw [hqbarrier]
      simp [State.settleBlocks, hbarrier]
    · rw [hflag _ _ n hqevents hn, State.settleBlocks_flag _ h3]
      exact hflag _ _ n hevents hn
    · have hburst : (s.keepCompletion t).undoCompletion.link.view = .burst := by
        rw [State.undoCompletion_link]
        exact hview
      rw [hqpub (by simp [State.blocksBeside, hne]), State.settleBlocks_pub_of_burst (s := s.keepCompletion t) hview,
        State.settleBlocks_pub_of_burst hburst, hpub hne]
      rfl

/-- What is kept of a completion is kept, and its blocks are put back as `State.undoCompletion` says. -/
theorem State.undo_settle_keepCompletion (s t : State) :
    (s.keepCompletion t).settle.rx.undo.isSome ∧
      ∀ u ∈ (s.keepCompletion t).settle.rx.undo,
        (s.keepCompletion t).settle.putBack u = (s.keepCompletion t).settle.undoCompletion := by
  refine ⟨?_, fun u hu => ?_⟩
  · rw [Option.isSome_iff_ne_none]
    intro hnone
    have hkept := State.undo_of_settle hnone
    cases hkept
  · simp only [State.undoCompletion, Option.mem_def.1 hu]

/-! ### The classification, case by case (R37, R51) -/

/-- The identity of the burst in the receive buffer. -/
def Receiver.identity (x : Receiver) : Identity :=
  { sender := senderIn (byteAt x.body 0), kind := kindIn (byteAt x.body 0), check := x.running }

theorem Receiver.checkPasses_iff (x : Receiver) : x.checkPasses = true ↔ x.check = highLow x.running.toNat := by
  rw [Receiver.checkPasses, decide_eq_true_eq, bytes16_eq_highLow]

theorem StationState.refuses_eq (st : StationState) : st.refuses = decide (st = .listening ∨ st = .member) := by
  cases st <;> rfl

section

variable {s : State} {r : Record} {own : Bool}

theorem State.classify_of_failure (h : s.rx.check ≠ highLow s.rx.running.toNat) :
    s.classify r own = (s.count .checkFails).holdOutcome none s.join.station.refuses :=
  if_neg fun hpass => h (s.rx.checkPasses_iff.1 hpass)

/-- The station that classifies on: the same one, or an OBSERVER by the finding of a duplicate (R50). -/
theorem State.classify_of_pass (h : s.rx.check = highLow s.rx.running.toNat) {t : State}
    (ht : (if s.rx.identity.sender = r.station ∧ own = false then s.findDuplicate else s) = t) :
    (formOf r.canvasWidth r.canvasHeight s.rx.body = none → s.classify r own = t.holdOutcome none t.join.station.refuses) ∧
      ∀ body, formOf r.canvasWidth r.canvasHeight s.rx.body = some body →
        s.classify r own = t.classifyBody s.join.station r own s.rx.identity (tagIn (byteAt s.rx.body 1)) body := by
  subst ht
  have hclassify : s.classify r own = _ := if_pos (s.rx.checkPasses_iff.2 h)
  refine ⟨fun hnone => ?_, fun body hbody => ?_⟩
  · refine hclassify.trans ?_
    simp only [hnone]
    rfl
  · refine hclassify.trans ?_
    simp only [hbody]
    rfl

theorem State.same_of_no_duplicate (hown : own = s.pub.transmission.isSome)
    (h : NoDuplicate s r s.rx.identity.sender) :
    (if s.rx.identity.sender = r.station ∧ own = false then s.findDuplicate else s) = s := by
  split
  · next hdup =>
    obtain ⟨hsender, hother⟩ := hdup
    have hfree : s.pub.transmission = none := by
      rw [hown] at hother
      exact Option.not_isSome_iff_eq_none.1 (by rw [hother]; exact Bool.false_ne_true)
    rcases h with h | h | h | h
    · exact absurd hsender h
    · exact absurd hfree h
    · simp only [State.findDuplicate, h]
    · simp only [State.findDuplicate, h]
  · rfl

/-- A body that is classified by its tag (R51, steps 6 to 8). -/
def BurstBody.IsTagged (body : BurstBody) : Prop :=
  body = .welcome ∨ body = .endFrame ∨ (∃ look, body = .look look) ∨ ∃ c, body = .content c

theorem State.takeWelcome_of_other {tag : Tag} (h : s.join.station ≠ .listening ∨ s.join.admission = some .withTag) :
    s.takeWelcome tag = s :=
  if_neg fun hboth => h.elim (absurd hboth.1) hboth.2

theorem State.takeWelcome_of_listening {tag : Tag} (hl : s.join.station = .listening) (ha : s.join.admission ≠ some .withTag) :
    s.takeWelcome tag =
      { s with barrier.fillTag := some (tagAfterEdges tag s.join.edgeCount), join.welcomeWait := none,
               join.admission := some .withTag } := if_pos ⟨hl, ha⟩

theorem State.classifyBody_of_tagged {before : StationState} {id : Identity} {tag : Tag} {body : BurstBody} (h : body.IsTagged)
    (hwelcome : body = .welcome → s.takeWelcome tag = s) :
    s.classifyBody before r own id tag body = s.classifyTagged before r id tag body := by
  rcases h with rfl | rfl | ⟨look, rfl⟩ | ⟨c, rfl⟩
  · exact congrArg (fun t => State.classifyTagged t before r id tag .welcome) (hwelcome rfl)
  · rfl
  · rfl
  · rfl

theorem State.adopt_of_known {before : StationState} {tag : Tag}
    (h : s.barrier.fillTag ≠ none ∨ (before ≠ .member ∧ before ≠ .observer)) : s.adopt before tag = s := by
  refine if_neg ?_
  rintro ⟨hnone, hbefore⟩
  rcases h with h | ⟨hm, ho⟩
  · exact h hnone
  · exact hbefore.elim hm ho

theorem State.adopt_of_unknown {before : StationState} {tag : Tag} (hnone : s.barrier.fillTag = none)
    (h : before = .member ∨ before = .observer) :
    s.adopt before tag = { s with barrier.fillTag := some (tagAfterEdges tag s.join.edgeCount) } := if_pos ⟨hnone, h⟩

theorem State.classifyTagged_of_stale {before : StationState} {id : Identity} {tag : Tag} {body : BurstBody} {t : State}
    (ht : s.adopt before tag = t) (h : t.barrier.fillTag ≠ some tag) :
    s.classifyTagged before r id tag body =
      (t.count .stale).holdOutcome (some { identity := id, roster := .heardOnly, content := .nothing, answersJoin := false })
        false := by
  subst ht
  exact if_neg h

theorem State.classifyTagged_of_current {before : StationState} {id : Identity} {tag : Tag} {body : BurstBody} {t : State}
    (ht : s.adopt before tag = t) (h : t.barrier.fillTag = some tag) :
    s.classifyTagged before r id tag body =
      t.holdOutcome (some { identity := id, roster := .update, content := t.contentPart r tag body, answersJoin := false })
        (decide (t.contentPart r tag body = .noRoom) && t.join.station.refuses) := by
  subst ht
  exact if_pos h

/-- The classification of a tagged burst looks at the station that adoption leaves. -/
theorem State.classifyTagged_congr {u : State} {before before' : StationState} {id : Identity} {tag : Tag} {body : BurstBody}
    (h : s.adopt before tag = u.adopt before' tag) :
    s.classifyTagged before r id tag body = u.classifyTagged before' r id tag body := by
  unfold State.classifyTagged
  rw [h]

/-- What a tagged burst does at its completion but for the pending outcome and the refusal: adoption, and the count of a stale one. -/
theorem State.classifyTagged_effect {before : StationState} {id : Identity} {tag : Tag} {body : BurstBody} {t : State}
    (ht : s.adopt before tag = t) :
    (s.classifyTagged before r id tag body).join = t.join ∧ (s.classifyTagged before r id tag body).barrier = t.barrier ∧
      (s.classifyTagged before r id tag body).port.counters.stale =
        (if t.barrier.fillTag = some tag then t.port.counters.stale else saturate t.port.counters.stale) := by
  by_cases h : t.barrier.fillTag = some tag
  · rw [State.classifyTagged_of_current ht h, if_pos h]
    exact ⟨rfl, rfl, rfl⟩
  · rw [State.classifyTagged_of_stale ht h, if_neg h]
    exact ⟨rfl, rfl, rfl⟩

theorem tagAfterEdges_eq (tag : Tag) (n : Nat) : tagAfterEdges tag n = BitVec.ofNat 4 (tag.toNat + n) := by
  rw [tagAfterEdges, BitVec.ofNat_add, BitVec.ofNat_toNat, BitVec.setWidth_eq]

/-- The edges taken during a burst leave its tag the current one exactly when they are a multiple of 16. -/
theorem tagAfterEdges_eq_self (tag : Tag) (n : Nat) : tagAfterEdges tag n = tag ↔ n % 16 = 0 := by
  have htag := tag.isLt
  rw [tagAfterEdges, ← BitVec.toNat_inj, BitVec.toNat_add, BitVec.toNat_ofNat]
  omega

/-- What the burst asks of the intake queue, under a tag that is current (R97, R110). -/
theorem State.contentPart_eq (tag : Tag) (body : BurstBody) :
    s.contentPart r tag body = match body with
      | .look look => .look tag look
      | .content c =>
        if c.relevant r then (if s.intake.queue.length < 4 then .reserved ⟨tag, c⟩ else .noRoom) else .nothing
      | _ => .nothing := by
  cases body <;> rfl

/-- A duplicate of the station's own number in the burst of another makes an OBSERVER of a station that is on the wall. -/
theorem State.duplicate_of_on_wall (hsender : s.rx.identity.sender = r.station)
    (h : s.join.station = .joining ∨ s.join.station = .listening ∨ s.join.station = .member) :
    (if s.rx.identity.sender = r.station ∧ false = false then s.findDuplicate else s) = s.enterObserver .duplicate := by
  rw [if_pos ⟨hsender, rfl⟩]
  rcases h with h | h | h <;> simp only [State.findDuplicate, h]

theorem State.classifyJoin_of_silent {id : Identity} {digest : BitVec 16} (h : s.join.station ≠ .member ∨ own = true) :
    s.classifyJoin own id digest =
      s.holdOutcome (some { identity := id, roster := .heardOnly, content := .nothing, answersJoin := false }) false := by
  have hcompares : (decide (s.join.station = .member) && !own) = false := by
    rcases h with h | h
    · rw [decide_eq_false h, Bool.false_and]
    · rw [h, Bool.not_true, Bool.and_false]
  simp only [State.classifyJoin, hcompares, Bool.false_and, Bool.false_eq_true, if_false]

/-- Which classification an OBSERVER makes of a burst: the pending outcome, the tag it then holds, and whether the burst is stale. -/
theorem State.classifyBody_of_observer {before : StationState} {id : Identity} {tag : Tag} (body : BurstBody)
    (hstation : s.join.station = .observer) :
    (∃ o ft p, s.classifyBody before r own id tag body =
        { s with rx := { s.rx with outcome := o }, link := { s.link with refuse := false }
                 barrier := { s.barrier with fillTag := ft }, port := { s.port with counters := { s.port.counters with stale := p } } }) ∧
      (s.classifyBody before r own id tag body).barrier.fillTag = (match body with
        | .join _ | .withdraw => s.barrier.fillTag
        | _ => (s.adopt before tag).barrier.fillTag) ∧
      (s.classifyBody before r own id tag body).port.counters.stale = (match body with
        | .join _ | .withdraw => s.port.counters.stale
        | _ => if (s.adopt before tag).barrier.fillTag = some tag then s.port.counters.stale
          else saturate s.port.counters.stale) ∧
      (s.classifyBody before r own id tag body).rx.outcome = (match body with
        | .join _ => some { identity := id, roster := .heardOnly, content := .nothing, answersJoin := false }
        | .withdraw => some { identity := id, roster := .withdraw, content := .nothing, answersJoin := false }
        | body => if (s.adopt before tag).barrier.fillTag ≠ some tag then
            some { identity := id, roster := .heardOnly, content := .nothing, answersJoin := false }
          else some { identity := id, roster := .update, content := s.contentPart r tag body, answersJoin := false }) := by
  have hm : s.join.station ≠ .member := by rw [hstation]; decide
  have hl : s.join.station ≠ .listening := by rw [hstation]; decide
  have hadopted : ∃ ft, s.adopt before tag = { s with barrier := { s.barrier with fillTag := ft } } := by
    unfold State.adopt
    split
    · exact ⟨_, rfl⟩
    · exact ⟨s.barrier.fillTag, rfl⟩
  have htagged (b : BurstBody) (h : b.IsTagged) := State.classifyBody_of_tagged (r := r) (own := own) (before := before) (id := id) h
    fun _ => State.takeWelcome_of_other (s := s) (tag := tag) (.inl hl)
  have heffect (b : BurstBody) (h : b.IsTagged) :
      (∃ o ft p, s.classifyBody before r own id tag b =
        { s with rx := { s.rx with outcome := o }, link := { s.link with refuse := false }
                 barrier := { s.barrier with fillTag := ft }, port := { s.port with counters := { s.port.counters with stale := p } } }) ∧
      (s.classifyBody before r own id tag b).barrier.fillTag = (s.adopt before tag).barrier.fillTag ∧
      (s.classifyBody before r own id tag b).port.counters.stale =
        (if (s.adopt before tag).barrier.fillTag = some tag then s.port.counters.stale else saturate s.port.counters.stale) ∧
      (s.classifyBody before r own id tag b).rx.outcome = (if (s.adopt before tag).barrier.fillTag ≠ some tag then
          some { identity := id, roster := .heardOnly, content := .nothing, answersJoin := false }
        else some { identity := id, roster := .update, content := s.contentPart r tag b, answersJoin := false }) := by
    obtain ⟨ft, hft⟩ := hadopted
    rw [htagged b h]
    by_cases hcurrent : (s.adopt before tag).barrier.fillTag = some tag
    · have hrefuse : (s.adopt before tag).join.station.refuses = false := by rw [hft, hstation]; rfl
      have hpart : (s.adopt before tag).contentPart r tag b = s.contentPart r tag b := by
        rw [hft, State.contentPart_eq, State.contentPart_eq]
      rw [State.classifyTagged_of_current rfl hcurrent, hrefuse, Bool.and_false, hpart, if_pos hcurrent,
        if_neg (not_not_intro hcurrent), hft]
      exact ⟨⟨_, ft, s.port.counters.stale, rfl⟩, rfl, rfl, rfl⟩
    · rw [State.classifyTagged_of_stale rfl hcurrent, if_neg hcurrent, if_pos hcurrent, hft]
      exact ⟨⟨_, ft, _, rfl⟩, rfl, rfl, rfl⟩
  cases body with
  | join digest =>
    rw [State.classifyBody, State.classifyJoin_of_silent (.inl hm)]
    exact ⟨⟨_, s.barrier.fillTag, s.port.counters.stale, rfl⟩, rfl, rfl, rfl⟩
  | withdraw => exact ⟨⟨_, s.barrier.fillTag, s.port.counters.stale, rfl⟩, rfl, rfl, rfl⟩
  | welcome => exact heffect _ (.inl rfl)
  | endFrame => exact heffect _ (.inr (.inl rfl))
  | look look => exact heffect _ (.inr (.inr (.inl ⟨look, rfl⟩)))
  | content c => exact heffect _ (.inr (.inr (.inr ⟨c, rfl⟩)))

theorem State.classifyJoin_of_equal {id : Identity} {digest : BitVec 16} (hm : s.join.station = .member)
    (h : s.digest = some digest) :
    s.classifyJoin false id digest =
      s.holdOutcome (some { identity := id, roster := .heardOnly, content := .nothing, answersJoin := true }) false := by
  simp only [State.classifyJoin, hm, h, decide_true, Bool.not_false, Bool.not_true, Bool.and_false, Bool.and_true,
    Bool.false_eq_true, if_false]

theorem State.classifyJoin_of_different {id : Identity} {digest : BitVec 16} (hm : s.join.station = .member)
    (h : s.digest ≠ some digest) :
    s.classifyJoin false id digest =
      (State.raise { s with join.mismatch := some id.sender } .mismatch).holdOutcome
        (some { identity := id, roster := .heardOnly, content := .nothing, answersJoin := false }) true := by
  simp only [State.classifyJoin, hm, h, decide_true, decide_false, Bool.not_false, Bool.and_true, Bool.and_false, if_true]

end

end Sys2Proof.Machine
end

section
/-! The statements of the classification at completion: O30, O31, O32, O33 and O34. -/

namespace Sys2Proof.Proofs

open Sys2Proof.Machine Sys2Proof.Safety

/-- Settles O30: neither kind of failure changes a block, so the counts alone are kept. -/
theorem checkFailuresAndMalformedBurstsAreRefused : Obligations.CheckFailuresAndMalformedBurstsAreRefused := by
  intro s l r hcan hr u refuse
  refine ⟨fun hfail => ?_, fun hpass hform hdup => ?_⟩
  · rw [exec_completion_of_unchanged hcan hr (State.classify_of_failure hfail) rfl rfl (State.undoBeside_of_checkFail rfl),
      StationState.refuses_eq]
    rfl
  · have hsame := State.same_of_no_duplicate (s := completed s l) (own := s.pub.transmission.isSome) rfl hdup
    rw [exec_completion_of_unchanged hcan hr ((State.classify_of_pass hpass hsame).1 hform) rfl rfl
      (State.undoBeside_of_same rfl), StationState.refuses_eq]
    rfl

/-- Settles O31: with no tag taken, the classification changes neither the Join Controller nor the Barrier Unit. -/
theorem currentAndStaleBursts : Obligations.CurrentAndStaleBursts := by
  intro s l r body hcan hr u b0 tag id hpass hform hdup kept
  have hclassify := (State.classify_of_pass (s := completed s l) hpass
    (State.same_of_no_duplicate (s := completed s l) (own := s.pub.transmission.isSome) rfl hdup)).2 body hform
  refine ⟨?_, fun htagged hknown => ?_⟩
  · rintro rfl
    rw [exec_completion_of_unchanged hcan hr hclassify rfl rfl (State.undoBeside_of_same rfl)]
    rfl
  have hadopt : State.adopt (completed s l) s.join.station tag = completed s l := State.adopt_of_known hknown
  have hbody := hclassify.trans (State.classifyBody_of_tagged (by tauto) (by
    rintro rfl
    have hkept : s.join.station ≠ .listening ∨ s.join.admission = some .withTag := by simpa using htagged
    exact State.takeWelcome_of_other (s := completed s l) hkept))
  refine ⟨fun hstale => ?_, fun hcurrent => ?_⟩
  · rw [exec_completion_of_unchanged hcan hr (hbody.trans (State.classifyTagged_of_stale hadopt hstale)) rfl rfl
      (State.undoBeside_of_stale rfl)]
    rfl
  · have hrefuse (part : ContentPart) : (decide (part = .noRoom) && (completed s l).join.station.refuses) =
        decide (part = .noRoom ∧ (s.join.station = .listening ∨ s.join.station = .member)) := by
      rw [StationState.refuses_eq, Bool.decide_and]
      rfl
    rw [exec_completion_of_unchanged hcan hr (hbody.trans (State.classifyTagged_of_current hadopt hcurrent)) rfl rfl
      (State.undoBeside_of_same rfl), hrefuse, State.contentPart_eq]
    rfl

/-- Settles O32: the classification with the tag taken is that of a station which held it, and only what is kept differs. -/
theorem tagsAreTakenFromTheWall : Obligations.TagsAreTakenFromTheWall := by
  intro s l r body hcan hr u b0 tag hpass hform hdup
  have hclassify := (State.classify_of_pass (s := completed s l) hpass
    (State.same_of_no_duplicate (s := completed s l) (own := s.pub.transmission.isSome) rfl hdup)).2 body hform
  have hput (t : State) :
      ∀ w ∈ (s.keepCompletion t).settle.rx.undo, ((s.keepCompletion t).settle.putBack w).join = s.join ∧
        ((s.keepCompletion t).settle.putBack w).barrier.fillTag = s.barrier.fillTag := by
    intro w hw
    rw [(State.undo_settle_keepCompletion s t).2 w hw]
    obtain ⟨hjoin, htag, -⟩ := State.undoCompletion_settle s t
    exact ⟨hjoin, htag⟩
  let now : Tag := tagAfterEdges tag s.join.edgeCount
  have hnow : now = BitVec.ofNat 4 (tag.toNat + s.join.edgeCount) := tagAfterEdges_eq tag _
  rw [← hnow]
  refine ⟨fun hstation hnone htagged => ?_, fun hl ha hwelcome => ?_, fun hstation => ?_⟩
  · let v : State := { s with barrier.fillTag := some now }
    have hclassify' := (State.classify_of_pass (s := completed v l) (r := r) hpass
      (State.same_of_no_duplicate (s := completed v l) (own := s.pub.transmission.isSome) rfl hdup)).2 body hform
    have hnotListening : s.join.station ≠ .listening := by
      rcases hstation with h | h <;> rw [h] <;> decide
    have hbody := hclassify.trans (State.classifyBody_of_tagged htagged fun _ =>
      State.takeWelcome_of_other (s := completed s l) (.inl hnotListening))
    have hbody' := hclassify'.trans (State.classifyBody_of_tagged htagged fun _ =>
      State.takeWelcome_of_other (s := completed v l) (.inl hnotListening))
    have hadopt : State.adopt (completed s l) s.join.station tag = completed v l := State.adopt_of_unknown hnone hstation
    have hadopt' : State.adopt (completed v l) s.join.station tag = completed v l :=
      State.adopt_of_known (s := completed v l) (.inl (Option.some_ne_none now))
    have hequal : State.classify (completed s l) r s.pub.transmission.isSome =
        State.classify (completed v l) r s.pub.transmission.isSome :=
      hbody.trans ((State.classifyTagged_congr (hadopt.trans hadopt'.symm)).trans hbody'.symm)
    obtain ⟨hjoin, hbarrier, hstale⟩ := State.classifyTagged_effect (r := r) (id := (completed s l).rx.identity) (body := body) hadopt
    refine ⟨_, _, exec_completion_of_canComplete hcan hr, exec_completion_of_canComplete (s := v) hcan hr, ?_,
      (State.undo_settle_keepCompletion s _).1, hnone ▸ hput _, ?_, ?_, ?_⟩
    · exact forgetting_settle_congr (forgetting_keepCompletion_congr hequal)
    · rw [State.settle_barrier_fillTag, hbody]
      exact congrArg Barrier.fillTag hbarrier
    · rw [State.settle_join, hbody]
      exact congrArg Join.station hjoin
    · rw [State.settle_stale, hbody]
      refine hstale.trans ?_
      simp only [← tagAfterEdges_eq_self tag s.join.edgeCount]
      simp only [completed, v, now, Option.some.injEq]
  · subst hwelcome
    let v : State := { s with barrier.fillTag := some now
                              join := { s.join with welcomeWait := none, admission := some .withTag } }
    have hclassify' := (State.classify_of_pass (s := completed v l) (r := r) hpass
      (State.same_of_no_duplicate (s := completed v l) (own := s.pub.transmission.isSome) rfl hdup)).2 .welcome hform
    have htake : State.takeWelcome (completed s l) tag = completed v l :=
      State.takeWelcome_of_listening (s := completed s l) hl ha
    have htake' : State.takeWelcome (completed v l) tag = completed v l :=
      State.takeWelcome_of_other (s := completed v l) (.inr rfl)
    have hbody : State.classify (completed s l) r s.pub.transmission.isSome =
        State.classifyTagged (completed v l) s.join.station r (completed s l).rx.identity tag .welcome :=
      hclassify.trans (congrArg (fun x => State.classifyTagged x s.join.station r _ tag .welcome) htake)
    have hbody' : State.classify (completed v l) r s.pub.transmission.isSome =
        State.classifyTagged (completed v l) s.join.station r (completed s l).rx.identity tag .welcome :=
      hclassify'.trans (congrArg (fun x => State.classifyTagged x s.join.station r _ tag .welcome) htake')
    have hadopt : State.adopt (completed v l) s.join.station tag = completed v l :=
      State.adopt_of_known (s := completed v l) (.inl (Option.some_ne_none now))
    obtain ⟨hjoin, hbarrier, -⟩ := State.classifyTagged_effect (r := r) (id := (completed s l).rx.identity) (body := .welcome) hadopt
    refine ⟨_, _, exec_completion_of_canComplete hcan hr, exec_completion_of_canComplete (s := v) hcan hr, ?_,
      (State.undo_settle_keepCompletion s _).1, hput _, ?_, ?_⟩
    · exact forgetting_settle_congr (forgetting_keepCompletion_congr (hbody.trans hbody'.symm))
    · rw [State.settle_barrier_fillTag, hbody]
      exact congrArg Barrier.fillTag hbarrier
    · rw [State.settle_join, hbody]
      exact hjoin
  · have hother : s.join.station ≠ .member ∧ s.join.station ≠ .observer ∧ s.join.station ≠ .listening := by
      rcases hstation with h | h <;> rw [h] <;> decide
    obtain ⟨hm, ho, hl⟩ := hother
    have hadopt : State.adopt (completed s l) s.join.station tag = completed s l := State.adopt_of_known (.inr ⟨hm, ho⟩)
    have htagged (h : body.IsTagged) := State.classifyBody_of_tagged (r := r) (own := s.pub.transmission.isSome)
      (before := s.join.station) (id := (completed s l).rx.identity) h fun _ =>
        State.takeWelcome_of_other (s := completed s l) (tag := tag) (.inl hl)
    have hkept : (State.classify (completed s l) r s.pub.transmission.isSome).join = s.join ∧
        (State.classify (completed s l) r s.pub.transmission.isSome).barrier = s.barrier := by
      rw [hclassify]
      have heffect (h : body.IsTagged) := by
        obtain ⟨hjoin, hbarrier, -⟩ :=
          State.classifyTagged_effect (r := r) (id := (completed s l).rx.identity) (body := body) hadopt
        rw [← htagged h] at hjoin hbarrier
        exact And.intro hjoin hbarrier
      cases body with
      | join digest =>
        rw [State.classifyBody, State.classifyJoin_of_silent (s := completed s l) (.inl hm)]
        exact ⟨rfl, rfl⟩
      | withdraw => exact ⟨rfl, rfl⟩
      | welcome => exact heffect (.inl rfl)
      | endFrame => exact heffect (.inr (.inl rfl))
      | look look => exact heffect (.inr (.inr (.inl ⟨look, rfl⟩)))
      | content c => exact heffect (.inr (.inr (.inr ⟨c, rfl⟩)))
    obtain ⟨hjoin, hbarrier⟩ := hkept
    refine ⟨_, exec_completion_of_canComplete hcan hr, ?_, ?_⟩
    · rw [State.settle_barrier_fillTag]
      exact congrArg Barrier.fillTag hbarrier
    · rw [State.settle_join]
      exact hjoin

/-- Settles O33: the finding makes an OBSERVER, whose classification changes the tag and the count of stale bursts alone, and settling in
a burst changes neither line of an OBSERVER. -/
theorem aDuplicateMakesAnObserver : Obligations.ADuplicateMakesAnObserver := by
  intro s l r hcan hr hfree u b0 tag form outcome hpass hsender hstation
  have hview : s.link.view = .burst := hcan.1
  let v : State := State.enterObserver (completed s l) .duplicate
  let adopted : Option Tag := (v.adopt s.join.station tag).barrier.fillTag
  obtain ⟨hnone, hsome⟩ := State.classify_of_pass (s := completed s l) hpass
    (State.duplicate_of_on_wall (s := completed s l) hsender hstation)
  obtain ⟨o, ft, p, hc, hft, ho, hp⟩ : ∃ o ft p, State.classify (completed s l) r false =
      { v with rx := { v.rx with outcome := o }, link := { v.link with refuse := false }
               barrier := { v.barrier with fillTag := ft }, port := { v.port with counters := { v.port.counters with stale := p } } } ∧
      ft = (match form with
        | none | some (.join _) | some .withdraw => s.barrier.fillTag
        | some _ => adopted) ∧
      o = (match form with
        | none => none
        | some (.join _) => outcome .heardOnly .nothing
        | some .withdraw => outcome .withdraw .nothing
        | some body =>
          if ft ≠ some tag then outcome .heardOnly .nothing
          else outcome .update (v.contentPart r tag body)) ∧
      p = (match form with
        | none | some (.join _) | some .withdraw => s.port.counters.stale
        | some _ => if ft = some tag then s.port.counters.stale else saturate s.port.counters.stale) := by
    cases hform : form with
    | none => exact ⟨none, s.barrier.fillTag, s.port.counters.stale, hnone hform, rfl, rfl, rfl⟩
    | some body =>
      obtain ⟨⟨o, ft, p, hc⟩, hft, hp, ho⟩ := State.classifyBody_of_observer (s := v) (r := r) (own := false)
        (before := s.join.station) (id := (completed s l).rx.identity) (tag := tag) body rfl
      rw [hc] at hft hp ho
      refine ⟨o, ft, p, (hsome body hform).trans hc, ?_⟩
      cases body with
      | join digest => exact ⟨hft, ho, hp⟩
      | withdraw => exact ⟨hft, ho, hp⟩
      | welcome => cases hft; exact ⟨rfl, ho, hp⟩
      | endFrame => cases hft; exact ⟨rfl, ho, hp⟩
      | look look => cases hft; exact ⟨rfl, ho, hp⟩
      | content c => cases hft; exact ⟨rfl, ho, hp⟩
  have hexec := exec_completion_of_canComplete hcan hr
  rw [hfree, Option.isSome_none, hc] at hexec
  generalize hw : ({ v with rx := { v.rx with outcome := o }, link := { v.link with refuse := false }
                            barrier := { v.barrier with fillTag := ft }
                            port := { v.port with counters := { v.port.counters with stale := p } } } : State) = w at hexec
  have hobserver : w.join.station = .observer := by rw [← hw]; rfl
  have hburst : w.link.view = .burst := by rw [← hw]; exact hview
  have hne : w.join.station ≠ s.join.station := by
    rw [hobserver]
    rcases hstation with h | h | h <;> rw [h] <;> decide
  obtain ⟨hjoin, hlink, hbarrier, hpub, hport⟩ := (s.keepCompletion w).settle_blocks
  have hlink := hlink.trans (State.settleBlocks_link_of_burst (s := s.keepCompletion w) hburst)
  have hpub := hpub.trans (State.settleBlocks_pub_of_burst (s := s.keepCompletion w) hburst)
  have hbarrier := hbarrier.trans (State.settleBlocks_barrier_of_other (s := s.keepCompletion w) (by
    rw [show (s.keepCompletion w).join.station = .observer from hobserver]
    decide))
  have hoverdue := State.settleBlocks_flag (s.keepCompletion w) (n := 9) (by decide)
  obtain ⟨x, hcounters⟩ := (s.keepCompletion w).settleBlocks_counters
  have hwfields : w.join = { s.join with station := .observer, joinPending := false, welcomeWait := none, quietLow := false
                                         admission := none, reason := some .duplicate } ∧
      w.barrier = { v.barrier with fillTag := ft } ∧ w.link.drive = .released ∧ w.link.refuse = false ∧
      w.pub = { s.pub with queue := [], held := false, transmission := none, welcomePending := false, spaceWanted := false } ∧
      w.port.events = s.port.events ||| 0x200 ∧ w.port.counters = { s.port.counters with stale := p } ∧ w.roster = s.roster ∧
      w.intake = s.intake ∧ w.rx.missed = (completed s l).rx.missed ∧ w.rx.outcome = o := by
    subst hw
    exact ⟨rfl, rfl, rfl, rfl, rfl, rfl, rfl, rfl, rfl, rfl, rfl⟩
  obtain ⟨hwjoin, hwbarrier, hwdrive, hwrefuse, hwpub, hwevents, hwcounters, hwroster, hwintake, hwmissed, hwoutcome⟩ := hwfields
  have hbarrier' : (s.keepCompletion w).settle.barrier = { v.barrier with fillTag := ft } := hbarrier.trans hwbarrier
  have htag : (s.keepCompletion w).settle.barrier.fillTag = ft := by
    rw [hbarrier]
    exact congrArg Barrier.fillTag hwbarrier
  obtain ⟨hkept, hput⟩ := State.undo_settle_keepCompletion s w
  obtain ⟨hqjoin, hqtag, hqtimer, -, hqpub⟩ := State.undoCompletion_settle s w
  refine ⟨_, hexec, ?_, ?_, hkept, ?_, ?_, ?_, ?_, ?_, ?_, ?_, ?_, ?_, ?_, ?_, ?_, ?_, ?_, ?_, ?_, ?_, ?_, ?_, ?_⟩
  · rw [State.settle_rx_outcome, htag]
    refine (hwoutcome.trans ho).trans ?_
    cases form with
    | none => rfl
    | some body => cases body <;> rfl
  · rw [State.settle_stale, htag]
    exact (congrArg Counters.stale hwcounters).trans hp
  · intro y hy
    rw [hput y hy]
    refine ⟨hqjoin, (hqpub hburst hne).trans ?_, hqtag, hqtimer⟩
    rw [hwpub, ← hfree]
  · exact (State.settle_join _).trans hwjoin
  · rw [hlink]
    exact hwdrive
  · rw [hlink]
    exact hwrefuse
  · rw [hbarrier']
    rfl
  · rw [hbarrier']
    rfl
  · rw [hbarrier']
    rfl
  · rw [hbarrier']
    rfl
  · rw [hbarrier']
    rfl
  · rw [hbarrier']
    rfl
  · rw [hbarrier']
    rfl
  · rw [hbarrier']
    exact if_congr (by rw [decide_eq_true_eq]; rfl) rfl rfl
  · intro hknown
    have hadopted : adopted = s.barrier.fillTag := by
      have hsame : v.adopt s.join.station tag = v := State.adopt_of_known (s := v) (hknown.imp Option.isSome_iff_ne_none.1
        fun hm => ⟨hm, by rcases hstation with h | h | h <;> rw [h] <;> decide⟩)
      simp only [adopted, hsame]
      rfl
    rw [htag, hft, hadopted]
    cases form with
    | none => rfl
    | some body => cases body <;> rfl
  · intro hunknown hm
    have hadopted : adopted = some (BitVec.ofNat 4 (tag.toNat + s.join.edgeCount)) := by
      rw [← tagAfterEdges_eq]
      simp only [adopted, State.adopt_of_unknown (s := v) (tag := tag) hunknown (.inl hm)]
      rfl
    refine (htag.trans hft).trans ?_
    cases form with
    | none => exact hunknown
    | some body =>
      cases body with
      | join digest => exact hunknown
      | withdraw => exact hunknown
      | _ => exact hadopted
  · rw [hpub]
    exact hwpub
  · rw [hport, hoverdue]
    refine (congrArg (fun e : BitVec 11 => e.getLsbD 9) hwevents).trans ?_
    rw [BitVec.getLsbD_or]
    exact Bool.or_true _
  · rw [hport, hcounters]
    exact (congrArg Counters.dropped hwcounters :)
  · exact (State.settle_roster _).trans hwroster
  · exact (State.settle_intake_queue _).trans (congrArg Intake.queue hwintake)
  · have hmissed : (s.rx.takeBit (decide (l = .high))).missed = s.rx.missed := by rw [Receiver.takeBit_eq]
    exact ((State.settle_rx_missed (s.keepCompletion w)).trans hwmissed).trans hmissed

/-- Settles O34: a JOIN's digest is compared by a MEMBER that did not send it, and only the mismatch is a change of a block. -/
theorem aMemberComparesTheDigest : Obligations.AMemberComparesTheDigest := by
  intro s l r digest hcan hr u b0 id rx hpass hform hdup
  have hclassify := (State.classify_of_pass (s := completed s l) hpass
    (State.same_of_no_duplicate (s := completed s l) (own := s.pub.transmission.isSome) rfl hdup)).2 _ hform
  have hother (hfree : s.pub.transmission = none) : State.classify (completed s l) r s.pub.transmission.isSome =
      State.classifyJoin (completed s l) false (completed s l).rx.identity digest := by
    rw [hclassify, hfree]
    rfl
  refine ⟨fun hm hfree hdiffer => ?_, fun hm hfree hequal => ?_, fun hsilent => ?_⟩
  · have hexec := exec_completion_of_canComplete hcan hr
    rw [hother hfree, State.classifyJoin_of_different (s := completed s l) hm hdiffer] at hexec
    refine ⟨_, hexec, (State.undo_settle_keepCompletion s _).1, fun w hw => ?_, forgetting_settle_congr rfl⟩
    rw [(State.undo_settle_keepCompletion s _).2 w hw]
    obtain ⟨hjoin, -, -, hflag, -⟩ := State.undoCompletion_settle s
      ((State.raise { completed s l with join.mismatch := some (completed s l).rx.identity.sender } .mismatch).holdOutcome
        (some { identity := (completed s l).rx.identity, roster := .heardOnly, content := .nothing, answersJoin := false }) true)
    exact ⟨hjoin, hflag 10 (by decide) (by decide)⟩
  · have hbody := (hother hfree).trans (State.classifyJoin_of_equal (s := completed s l) hm hequal)
    rw [exec_completion_of_unchanged hcan hr hbody rfl rfl (State.undoBeside_of_same rfl)]
    rfl
  · have hown : (completed s l).join.station ≠ .member ∨ s.pub.transmission.isSome = true :=
      hsilent.imp_right Option.isSome_iff_ne_none.2
    rw [exec_completion_of_unchanged hcan hr (hclassify.trans (State.classifyJoin_of_silent hown)) rfl rfl
      (State.undoBeside_of_same rfl)]
    rfl

end Sys2Proof.Proofs
end

section
/-! SUPPORT. What a completion does to the blocks, in one statement for every burst; the part of the port that a truncation puts
back. -/

namespace Sys2Proof.Machine

open Sys2Proof.Safety

/-! ### The port but for what a truncation puts back (R28) -/

/-- Two ports that differ only in what an undo record puts back: the event flags but SHOWN and DAMAGE, and four counters. -/
def Port.Near (p q : Port) : Prop :=
  q = { p with
    events := q.events
    counters := { p.counters with forced := q.counters.forced, stalls := q.counters.stalls
                                  checkFails := q.counters.checkFails, stale := q.counters.stale } } ∧
  q.events &&& ~~~Undo.flags = p.events &&& ~~~Undo.flags

theorem Port.Near.refl (p : Port) : p.Near p := ⟨rfl, rfl⟩

theorem Port.Near.trans {p q r : Port} (h : p.Near q) (h' : q.Near r) : p.Near r := by
  obtain ⟨hq, heq⟩ := h
  obtain ⟨hr, her⟩ := h'
  refine ⟨?_, her.trans heq⟩
  rw [hr, hq]

theorem State.near_raise (s : State) {e : Event} (h : e ≠ .shown) (h' : e ≠ .damage) : s.port.Near (s.raise e).port := by
  refine ⟨rfl, ?_⟩
  show (s.port.events ||| e.bit) &&& ~~~Undo.flags = s.port.events &&& ~~~Undo.flags
  have hbit : e.bit &&& ~~~Undo.flags = 0#11 := by cases e <;> simp_all <;> decide
  rw [BitVec.and_or_distrib_right, hbit, BitVec.or_zero]

theorem State.near_count (s : State) {k : Counter} (h : k = .forced ∨ k = .stalls ∨ k = .checkFails ∨ k = .stale) :
    s.port.Near (s.count k).port := by
  rcases h with rfl | rfl | rfl | rfl <;> exact ⟨rfl, rfl⟩

/-- Flags set and cleared by a truncation, by what was raised and what was owed, are those of before (R28). -/
theorem events_restored {t p : BitVec 11} (h : t &&& ~~~Undo.flags = p &&& ~~~Undo.flags) :
    (t &&& ~~~((t &&& ~~~p) &&& Undo.flags)) ||| ((p &&& ~~~t) &&& Undo.flags) = p := by
  ext i hi
  have hbit := congrArg (fun v => v.getLsbD i) h
  simp only [BitVec.getLsbD_and, BitVec.getLsbD_not, hi, decide_true, Bool.true_and] at hbit
  simp only [← BitVec.getLsbD_eq_getElem, BitVec.getLsbD_or, BitVec.getLsbD_and, BitVec.getLsbD_not, hi, decide_true,
    Bool.true_and]
  revert hbit
  cases t.getLsbD i <;> cases p.getLsbD i <;> cases Undo.flags.getLsbD i <;> simp

/-- A truncation puts back the port of before, when nothing but the station's own follow-up has moved it. -/
theorem State.putBack_port_of_near {p t : State} {u : Undo} (h : p.port.Near t.port)
    (hu : { u with blocks := none } = p.undoBeside t) : (t.putBack u).port = p.port := by
  obtain ⟨hport, hevents⟩ := h
  have hfields := Undo.mk.inj hu
  have hput : (t.putBack u).port = { t.port with events := (t.putBack u).port.events, counters := (t.putBack u).port.counters } := by
    unfold State.putBack State.putBackBlocks
    cases u.blocks <;> rfl
  rw [hput, State.putBack_events, State.putBack_counters]
  obtain ⟨hraised, howed, hforced, hstalls, hfails, hstale, -⟩ := hfields
  rw [hraised, howed, hforced, hstalls, hfails, hstale, events_restored hevents, hport]
  simp

/-! ### What a completion does to the Join Controller and the Barrier Unit (R48, R157, R158) -/

/-- What the classification of a burst does to the Join Controller and the Barrier Unit, after the finding of a duplicate: nothing, a
mismatch recorded, a tag adopted, or a tag taken from a WELCOME. -/
inductive BlocksMove (m : State) : Join → Barrier → Prop
  | same : BlocksMove m m.join m.barrier
  | mismatch (n : StationNumber) (h : m.join.station = .member) : BlocksMove m { m.join with mismatch := some n } m.barrier
  | adopt (tag : Tag) (hnone : m.barrier.fillTag = none) (h : m.join.station = .member ∨ m.join.station = .observer) :
      BlocksMove m m.join { m.barrier with fillTag := some tag }
  | welcome (tag : Tag) (h : m.join.station = .listening) (ha : m.join.admission ≠ some .withTag) :
      BlocksMove m { m.join with welcomeWait := none, admission := some .withTag } { m.barrier with fillTag := some tag }

/-- What a classification leaves of the station `m`: its own two blocks moved, a pending outcome whose reserved place bears the tag, a
refusal, and the port but for what a truncation puts back. -/
def State.ClassifiesTo (m t : State) : Prop :=
  ∃ j b o refuse q, BlocksMove m j b ∧ (∀ x ∈ o, ∀ e, x.content = .reserved e → b.fillTag = some e.tag) ∧ m.port.Near q ∧
    t = { m with join := j, barrier := b, rx := { m.rx with outcome := o }, link := { m.link with refuse := refuse }, port := q }

/-- Adoption, as one of the moves of a completion. -/
theorem State.adopt_move {m : State} (before : StationState) (tag : Tag) {j : Join} {b : Barrier} (h : BlocksMove m j b)
    (hbefore : before = .member ∨ before = .observer → j = m.join ∧ b = m.barrier ∧
      (m.join.station = .member ∨ m.join.station = .observer)) :
    ∃ b', BlocksMove m j b' ∧
      State.adopt { m with join := j, barrier := b } before tag = { m with join := j, barrier := b' } := by
  by_cases hadopt : b.fillTag = none ∧ (before = .member ∨ before = .observer)
  · obtain ⟨rfl, rfl, hstation⟩ := hbefore hadopt.2
    exact ⟨_, .adopt _ hadopt.1 hstation, if_pos hadopt⟩
  · exact ⟨b, h, if_neg hadopt⟩

/-- The content part reserves a place under the burst's tag only (R97). -/
theorem State.contentPart_reserved_tag {s : State} {r : Record} {tag : Tag} {body : BurstBody} {e : IntakeEntry}
    (h : s.contentPart r tag body = .reserved e) : e.tag = tag := by
  rw [State.contentPart_eq] at h
  split at h
  · simp at h
  · split at h
    · split at h
      · cases h
        rfl
      · simp at h
    · simp at h
  · simp at h

theorem State.classifyTagged_classifiesTo {m : State} {before : StationState} {r : Record} {id : Identity} {tag : Tag}
    {body : BurstBody} {j : Join} {b : Barrier} (h : BlocksMove m j b)
    (hbefore : before = .member ∨ before = .observer → j = m.join ∧ b = m.barrier ∧
      (m.join.station = .member ∨ m.join.station = .observer)) :
    m.ClassifiesTo (State.classifyTagged { m with join := j, barrier := b } before r id tag body) := by
  obtain ⟨b', hmove, hadopt⟩ := State.adopt_move before tag h hbefore
  by_cases hcurrent : b'.fillTag = some tag
  · rw [State.classifyTagged_of_current hadopt hcurrent]
    refine ⟨j, b', _, _, m.port, hmove, ?_, .refl _, rfl⟩
    rintro x ⟨⟩ e he
    rw [hcurrent, State.contentPart_reserved_tag he]
  · rw [State.classifyTagged_of_stale hadopt hcurrent]
    exact ⟨j, b', _, _, _, hmove, by rintro x ⟨⟩ e ⟨⟩, m.near_count (by simp), rfl⟩

/-- Every burst that passes its check, by its kind. -/
theorem State.classifyBody_classifiesTo {m : State} {before : StationState} {r : Record} {own : Bool} {id : Identity} {tag : Tag}
    (body : BurstBody) (hbefore : before = .member ∨ before = .observer → m.join.station = .member ∨ m.join.station = .observer) :
    m.ClassifiesTo (m.classifyBody before r own id tag body) := by
  have htagged (b : BurstBody) : m.ClassifiesTo (m.classifyTagged before r id tag b) :=
    State.classifyTagged_classifiesTo .same fun h => ⟨rfl, rfl, hbefore h⟩
  cases body with
  | join digest =>
    show m.ClassifiesTo (m.classifyJoin own id digest)
    by_cases hm : m.join.station = .member ∧ own = false
    · obtain ⟨hm, rfl⟩ := hm
      by_cases hdigest : m.digest = some digest
      · rw [State.classifyJoin_of_equal hm hdigest]
        exact ⟨_, _, _, _, _, .same, by rintro x ⟨⟩ e ⟨⟩, .refl _, rfl⟩
      · rw [State.classifyJoin_of_different hm hdigest]
        exact ⟨_, _, _, _, _, .mismatch _ hm, by rintro x ⟨⟩ e ⟨⟩, m.near_raise (by simp) (by simp), rfl⟩
    · rw [State.classifyJoin_of_silent (by cases own <;> simp_all)]
      exact ⟨_, _, _, _, _, .same, by rintro x ⟨⟩ e ⟨⟩, .refl _, rfl⟩
  | withdraw => exact ⟨_, _, _, _, _, .same, by rintro x ⟨⟩ e ⟨⟩, .refl _, rfl⟩
  | welcome =>
    show m.ClassifiesTo ((m.takeWelcome tag).classifyTagged before r id tag .welcome)
    by_cases hl : m.join.station = .listening ∧ m.join.admission ≠ some .withTag
    · rw [State.takeWelcome_of_listening hl.1 hl.2]
      exact State.classifyTagged_classifiesTo (.welcome _ hl.1 hl.2) fun h => by simp [hl.1] at hbefore; tauto
    · rw [State.takeWelcome_of_other (by tauto)]
      exact htagged _
  | endFrame => exact htagged _
  | look l => exact htagged _
  | content c => exact htagged _

/-- The station that a duplicate leaves before the burst is classified on: the station itself, or the OBSERVER it has become (R50). -/
def State.DuplicateLeaves (s : State) (own : Bool) (m : State) : Prop :=
  m = s ∨ (own = false ∧ (s.join.station = .joining ∨ s.join.station = .listening ∨ s.join.station = .member) ∧
    m = s.enterObserver .duplicate)

theorem State.duplicateLeaves (s : State) (r : Record) (own : Bool) :
    s.DuplicateLeaves own (if s.rx.identity.sender = r.station ∧ own = false then s.findDuplicate else s) := by
  split
  · rename_i h
    unfold State.findDuplicate
    split
    · exact .inr ⟨h.2, .inl ‹_›, rfl⟩
    · exact .inr ⟨h.2, .inr (.inl ‹_›), rfl⟩
    · exact .inr ⟨h.2, .inr (.inr ‹_›), rfl⟩
    all_goals exact .inl rfl
  · exact .inl rfl

/-- The classification of any burst: the finding of a duplicate, then one move of the Join Controller and the Barrier Unit. -/
theorem State.classify_classifiesTo (s : State) (r : Record) (own : Bool) :
    ∃ m, s.DuplicateLeaves own m ∧ m.ClassifiesTo (s.classify r own) := by
  by_cases hcheck : s.rx.check = highLow s.rx.running.toNat
  · obtain ⟨hmalformed, hformed⟩ := State.classify_of_pass (r := r) (own := own) hcheck rfl
    have hleaves := s.duplicateLeaves r own
    generalize (if s.rx.identity.sender = r.station ∧ own = false then s.findDuplicate else s) = m at hmalformed hformed hleaves
    refine ⟨m, hleaves, ?_⟩
    cases hform : formOf r.canvasWidth r.canvasHeight s.rx.body with
    | none =>
      rw [hmalformed hform]
      exact ⟨_, _, _, _, _, .same, by simp, .refl _, rfl⟩
    | some body =>
      rw [hformed body hform]
      refine State.classifyBody_classifiesTo body fun h => ?_
      rcases hleaves with rfl | ⟨-, -, rfl⟩
      · exact h
      · exact .inr rfl
  · rw [State.classify_of_failure hcheck]
    exact ⟨s, .inl rfl, _, _, none, _, _, .same, by simp, s.near_count (by simp), rfl⟩

end Sys2Proof.Machine
end

section
/-! SUPPORT. The fill tag: which operations change a known tag, and what a swap edge makes of it. -/

namespace Sys2Proof.Machine

open Sys2Proof.Safety

@[simp] theorem State.beside_fillTag (f g : State → State) (s : State) :
    (s.beside f g).barrier.fillTag = (f s).barrier.fillTag := by
  obtain ⟨x, h, -⟩ := s.beside_eq f g
  rw [h]

@[simp] theorem State.makeMarks_barrier (s : State) : s.makeMarks.barrier = s.barrier := by
  obtain ⟨x, y, q, h⟩ := s.makeMarks_blocks
  rw [h]

@[simp] theorem State.swapEdge_fillTag (s : State) : s.swapEdge.barrier.fillTag = nextTag s.barrier.fillTag := by
  rw [s.swapEdge_eq, s.edgeMoves_port]
  rfl

/-! ### The outcomes of a transmission (R121, R122, R130, R155) -/

/-- A JOIN that failed: one unit of the budget is used, and with none left the station is an OBSERVER. -/
theorem State.joinFailed_cases (s : State) :
    (s.join.budget - 1 ≠ 0 ∧ s.joinFailed = { s with join.budget := s.join.budget - 1 }) ∨
    (s.join.budget - 1 = 0 ∧ s.joinFailed = State.enterObserver { s with join.budget := s.join.budget - 1 } .refused) := by
  unfold State.joinFailed
  dsimp only
  split
  · exact .inr ⟨‹_›, rfl⟩
  · exact .inl ⟨‹_›, rfl⟩

/-- The outcome of a JOIN: nothing, one more unit of the budget used, LISTENING, or OBSERVER. -/
theorem State.joinReport_cases (s : State) (r : Report) :
    s.joinReport r = s ∨
    (∃ q, s.joinReport r =
      { s with
        join := { s.join with budget := s.join.budget - 1, joinPending := false, station := .listening, welcomeWait := some 0,
                              quietLow := decide (s.barrier.confirmed = some .low) }
        port := q }) ∨
    (∃ q, s.join.budget - 1 ≠ 0 ∧ s.joinReport r = { s with join.budget := s.join.budget - 1, port := q }) ∨
    ∃ q, s.joinReport r = State.enterObserver { s with join.budget := s.join.budget - 1, port := q } .refused := by
  have hfailed (t : State) (q : Port) (ht : t = { s with port := q }) :
      (∃ q, s.join.budget - 1 ≠ 0 ∧ t.joinFailed = { s with join.budget := s.join.budget - 1, port := q }) ∨
      ∃ q, t.joinFailed = State.enterObserver { s with join.budget := s.join.budget - 1, port := q } .refused := by
    subst ht
    rcases State.joinFailed_cases { s with port := q } with ⟨hleft, h⟩ | ⟨-, h⟩
    · exact .inl ⟨q, hleft, h⟩
    · exact .inr ⟨q, h⟩
  cases r with
  | lost => exact .inl rfl
  | delivered => exact .inr (.inl ⟨_, rfl⟩)
  | refused => exact .inr (.inr (hfailed (s.count .refusedTx) _ rfl))
  | bitError => exact .inr (.inr (hfailed s _ rfl))

/-- The report of a burst that is no JOIN acts on the Publisher and the port alone. -/
theorem State.report_of_no_join {s : State} (r : Report) (h : ∀ t ∈ s.pub.transmission, t.source ≠ .join) :
    ∃ p q, s.report r = { s with pub := p, port := q } := by
  rcases s.report_cases r with ⟨-, heq⟩ | ⟨t, ht, ⟨hs, -⟩ | ⟨-, heq⟩ | ⟨-, -, heq⟩ | ⟨q, rest, -, -, heq⟩⟩
  · exact ⟨s.pub, s.port, heq⟩
  · exact absurd hs (h t ht)
  · obtain ⟨q, hq⟩ := State.welcomeReport_blocks { s with pub.transmission := none } r
    exact ⟨_, q, heq.trans hq⟩
  · exact ⟨_, s.port, heq⟩
  · obtain ⟨p, q', hq⟩ := State.requestReport_blocks { s with pub.transmission := none } t q r
    exact ⟨p, q', heq.trans hq⟩

theorem State.report_fillTag (s : State) (r : Report) : (s.report r).barrier.fillTag = s.barrier.fillTag := by
  by_cases h : ∀ t ∈ s.pub.transmission, t.source ≠ .join
  · obtain ⟨p, q, heq⟩ := s.report_of_no_join r h
    rw [heq]
  · push Not at h
    obtain ⟨t, ht, hsource⟩ := h
    have heq : s.report r = State.joinReport { s with pub.transmission := none } r := by
      simp only [State.report, Option.mem_def.1 ht, hsource]
    rw [heq]
    rcases State.joinReport_cases { s with pub.transmission := none } r with h | ⟨q, h⟩ | ⟨q, -, h⟩ | ⟨q, h⟩ <;> rw [h]
    rw [State.enterObserver_fillTag]

theorem State.stopDriving_fillTag (s : State) (r : Report) : (s.stopDriving r).barrier.fillTag = s.barrier.fillTag :=
  s.report_fillTag r

/-! ### Bits and completions -/

/-- A station that knows its tag takes none at a completion, unless it is LISTENING (R48, R158). -/
theorem BlocksMove.fillTag {m : State} {j : Join} {b : Barrier} (h : BlocksMove m j b) (htag : m.barrier.fillTag.isSome)
    (hstation : m.join.station ≠ .listening) : b.fillTag = m.barrier.fillTag := by
  cases h with
  | same | mismatch => rfl
  | adopt tag hnone _ => simp [hnone] at htag
  | welcome tag h _ => exact absurd h hstation

theorem State.classify_fillTag {s : State} (r : Record) (own : Bool) (htag : s.barrier.fillTag.isSome)
    (hstation : s.join.station ≠ .listening) : (s.classify r own).barrier.fillTag = s.barrier.fillTag := by
  obtain ⟨m, hleaves, j, b, o, refuse, q, hmove, -, -, heq⟩ := s.classify_classifiesTo r own
  rw [heq]
  rcases hleaves with rfl | ⟨-, -, rfl⟩
  · exact hmove.fillTag htag hstation
  · exact hmove.fillTag htag (by simp)

theorem State.takeBit_fillTag {s : State} (bit : Bool) (htag : s.barrier.fillTag.isSome)
    (hstation : s.join.station ≠ .listening) : (s.takeBit bit).barrier.fillTag = s.barrier.fillTag := by
  unfold State.takeBit
  dsimp only
  split
  · unfold State.complete
    split
    · exact State.classify_fillTag (s := { s with link.bitOpen := false, link.atSlot := true, rx := s.rx.takeBit bit }) _ _ htag
        hstation
    · rfl
  · rfl

/-- No report of a MEMBER's or an OBSERVER's transmission makes a LISTENING station. -/
theorem State.stopDriving_takeBit_fillTag {s : State} (r : Report) (bit : Bool) (htag : s.barrier.fillTag.isSome)
    (hstation : s.join.station = .member ∨ s.join.station = .observer)
    (hsource : ∀ t ∈ s.pub.transmission, t.source = .join → s.join.station = .joining) :
    ((s.stopDriving r).takeBit bit).barrier.fillTag = s.barrier.fillTag := by
  have hjoin : (s.stopDriving r).join = s.join := by
    obtain ⟨p, q, heq⟩ := s.report_of_no_join r fun t ht hs => by simp [hsource t ht hs] at hstation
    rw [State.stopDriving, heq]
  have hkept := s.stopDriving_fillTag r
  rw [State.takeBit_fillTag bit (by rw [hkept]; exact htag) (by rw [hjoin]; rcases hstation with h | h <;> simp [h]), hkept]

/-! ### The timers and the other acts (R54–R65) -/

@[simp] theorem State.reachPeriod_fillTag (s : State) : s.reachPeriod.barrier.fillTag = s.barrier.fillTag := by
  unfold State.reachPeriod
  split <;> simp

@[simp] theorem State.reachHold_fillTag (s : State) : s.reachHold.barrier.fillTag = s.barrier.fillTag := by
  unfold State.reachHold
  dsimp only
  split
  · split <;> simp
  · simp

@[simp] theorem State.holdReached_fillTag (s : State) : s.holdReached.barrier.fillTag = s.barrier.fillTag := by
  unfold State.holdReached
  split <;> simp

@[simp] theorem State.reachStall_fillTag (s : State) : s.reachStall.barrier.fillTag = s.barrier.fillTag := by
  unfold State.reachStall
  dsimp only
  split
  · split <;> simp
  · simp

@[simp] theorem State.tickFrame_fillTag (s : State) : s.tickFrame.barrier.fillTag = s.barrier.fillTag := by
  unfold State.tickFrame
  dsimp only
  split
  · split
    · simp
    · split
      · simp
      · split <;> simp
  · rfl

@[simp] theorem State.endRedrive_fillTag (s : State) : s.endRedrive.barrier.fillTag = s.barrier.fillTag := by
  unfold State.endRedrive
  split <;> rfl

@[simp] theorem State.electricalFault_fillTag (s : State) : s.electricalFault.barrier.fillTag = s.barrier.fillTag := by
  unfold State.electricalFault
  split <;> rfl

@[simp] theorem State.ensureBit_barrier (s : State) : s.ensureBit.barrier = s.barrier := by
  obtain ⟨l, h⟩ := s.ensureBit_blocks
  rw [h]

@[simp] theorem State.ensureBit_join (s : State) : s.ensureBit.join = s.join := by
  obtain ⟨l, h⟩ := s.ensureBit_blocks
  rw [h]

@[simp] theorem State.ensureBit_pub (s : State) : s.ensureBit.pub = s.pub := by
  obtain ⟨l, h⟩ := s.ensureBit_blocks
  rw [h]

@[simp] theorem State.ensureSlot_barrier (s : State) : s.ensureSlot.barrier = s.barrier := by
  obtain ⟨l, q, h⟩ := s.ensureSlot_blocks
  rw [h]

@[simp] theorem State.flushQueue_barrier (s : State) : s.flushQueue.barrier = s.barrier := by
  obtain ⟨p, q, h⟩ := s.flushQueue_blocks
  rw [h]

@[simp] theorem State.sampleSlot_fillTag (s : State) (delivered : Bool) :
    (s.sampleSlot delivered).barrier.fillTag = s.barrier.fillTag := by
  obtain ⟨out, m, o, ro, i, d, w, x, q, h⟩ := s.carryOut_blocks delivered
  show ((s.carryOut delivered).report _).barrier.fillTag = _
  rw [State.report_fillTag, h]

@[simp] theorem State.openStart_fillTag (s : State) : s.openStart.barrier.fillTag = s.barrier.fillTag := by
  unfold State.openStart
  split <;> simp

@[simp] theorem State.sampleStart_fillTag (s : State) (l : Level) : (s.sampleStart l).barrier.fillTag = s.barrier.fillTag := by
  unfold State.sampleStart
  split
  · cases l
    · rfl
    · dsimp only
      split
      · rw [State.settle_barrier_fillTag, State.stopDriving_fillTag]
        rfl
      · rfl
  · rfl

@[simp] theorem State.request_fillTag (s : State) (body : RequestBody) (payload : List RawPixel) :
    (s.request body payload).1.barrier.fillTag = s.barrier.fillTag := by
  obtain ⟨p, h⟩ := s.takeRequest_blocks body payload
  simp [State.request, h]

/-- A confirmed rise leaves the tag, or it is a swap edge. -/
theorem State.riseBlocks_tag (s : State) :
    s.riseBlocks = s.swapEdge ∨ s.riseBlocks.barrier.fillTag = s.barrier.fillTag := by
  rcases s.riseBlocks_cases with h | h | h | h <;> rw [h]
  · exact .inl rfl
  · exact .inr s.electricalFault_fillTag
  · exact .inr rfl
  · exact .inr rfl

/-- What a swap edge leaves of the tag, the count of swaps and the timer, once settled (R66). -/
theorem State.swapEdge_settle (s : State) (g : State → State) {f : State → State} (h : f s = s.swapEdge) :
    (s.beside f g).settle.barrier.fillTag = nextTag s.barrier.fillTag ∧
      (s.beside f g).settle.port.counters.swaps = saturate s.port.counters.swaps ∧ (s.beside f g).settle.barrier.timer = 0 := by
  obtain ⟨x, hx, -⟩ := s.beside_eq f g
  rw [h] at hx
  have hport := State.swapEdge_eq s
  rw [s.edgeMoves_port] at hport
  obtain ⟨-, -, -, -, hsettled⟩ := (s.beside f g).settle_blocks
  obtain ⟨v, hcounters⟩ := (s.beside f g).settleBlocks_counters
  refine ⟨by rw [State.settle_barrier_fillTag, hx]; exact s.swapEdge_fillTag, ?_, ?_⟩
  · rw [hsettled, hcounters, hx, hport]
  · rw [State.settle_barrier_timer, hx, hport]
    rfl

/-! ### Every command (R66, R68) -/

/-- What a command does to a known tag of a MEMBER or OBSERVER: nothing, or one swap edge. -/
theorem Effect.fillTag {s t : State} {c : Instr} {tag tag' : Tag} (heffect : Effect s c t) (hw : TransmissionWf s)
    (hs : s.barrier.fillTag = some tag) (ht : t.barrier.fillTag = some tag')
    (hstation : s.join.station = .member ∨ s.join.station = .observer) (hundo : s.rx.undo = none ∨ c ≠ .busIdle) :
    tag' = tag ∨ (tag' = tag + 1 ∧ c = .confirmedRise ∧ t.port.counters.swaps = saturate s.port.counters.swaps ∧
      t.barrier.timer = 0) := by
  have hkept (h : t.barrier.fillTag = s.barrier.fillTag) : tag' = tag := Option.some.inj (by rw [← ht, h, hs])
  have hsome : s.barrier.fillTag.isSome := by rw [hs]; rfl
  have hlistening : s.join.station ≠ .listening := by rcases hstation with h | h <;> simp [h]
  have hsource (x : Transmission) (hx : x ∈ s.pub.transmission) (hj : x.source = .join) : s.join.station = .joining :=
    (hw x hx).1 hj
  cases heffect with
  | confirmedRise h hlow =>
    rcases State.riseBlocks_tag { s with barrier.confirmed := some .high } with hedge | hsame
    · obtain ⟨htag, hswaps, htimer⟩ := State.swapEdge_settle { s with barrier.confirmed := some .high } _ hedge
      refine .inr ⟨?_, rfl, hswaps, htimer⟩
      exact Option.some.inj (ht.symm.trans (htag.trans (by simp [nextTag, hs])))
    · exact .inl (hkept (by simpa [State.takeRise] using hsame))
  | truncate h hfree hslot =>
    refine .inl (hkept ?_)
    have hnone := hundo.resolve_right (by simp)
    have hsame : State.undoCompletion { s with rx.outcome := none } = { s with rx.outcome := none } := by
      simp [State.undoCompletion, hnone]
    rw [State.settle_barrier_fillTag]
    show s.truncate.barrier.fillTag = _
    rw [s.truncate_eq, hsame]
    rfl
  | hardReset => simp [State.hardReset, State.reset, Barrier.reset] at ht
  | reset p q => simp [State.softReset, Barrier.softReset, Barrier.reset] at ht
  | clearPass h => simp [h] at hstation
  | configure ps r p hr h => rcases h with h | h <;> simp [h] at hstation
  | start r p q hr h hq => simp [h] at hstation
  | welcomeWait =>
    refine .inl (hkept ?_)
    simp [State.expireWelcome, State.expireBlocks, hlistening]
  | lost h hbyte hb =>
    refine .inl (hkept ?_)
    rw [State.settle_barrier_fillTag, State.stopDriving_takeBit_fillTag _ _ (by simpa using hsome) (by simpa using hstation)
      (by simpa using hsource), State.ensureBit_barrier]
  | bitError bit h hb =>
    refine .inl (hkept ?_)
    rw [State.settle_barrier_fillTag, State.stopDriving_takeBit_fillTag _ _ (by simpa using hsome) (by simpa using hstation)
      (by simpa using hsource), State.count_barrier, State.ensureBit_barrier]
  | completion l h hlast =>
    refine .inl (hkept ?_)
    rw [State.settle_barrier_fillTag, State.takeBit_fillTag _ (by simpa using hsome) (by simpa using hlistening),
      State.ensureBit_barrier]
  | bit l h hlast =>
    refine .inl (hkept ?_)
    rw [State.takeBit_fillTag _ (by simpa using hsome) (by simpa using hlistening), State.ensureBit_barrier]
  | flush p q hq => exact .inl (hkept (by simp))
  | request c body payload p q hc h hbody hq => exact .inl (hkept (State.request_fillTag _ body payload))
  | _ => exact .inl (hkept (by simp [State.takeFall, State.clearFaultWatch, State.clearCounters]))

end Sys2Proof.Machine
end

section
/-! The statements of the fill tag and of the state after reset: O60 and O59. -/

namespace Sys2Proof.Proofs

open Sys2Proof.Machine Sys2Proof.Safety

/-- Settles O60: a known tag of a MEMBER or OBSERVER is touched by the swap edge alone. -/
theorem theTagAdvancesByOneAtEachEdge : Obligations.TheTagAdvancesByOneAtEachEdge := by
  refine ⟨fun s t tag tag' hw hstep hs ht hstation hundo => ?_, fun s t tag hstep hc hlow hs hstation => ?_⟩
  · obtain ⟨⟨-, ⟨-, -, -, hwait, -⟩, -, htransmission, -⟩, -⟩ := hw
    rcases step_cases hstep with ⟨c, rest, hp, hexec⟩ | ⟨-, rfl⟩
    · rw [hp, List.head?_cons] at hundo ⊢
      simpa using (effect_of_exec hexec).fillTag (s := { s with pending := rest }) htransmission hs ht hstation
        (hundo.imp_right fun h hidle => h (congrArg some hidle))
    · have hnone : s.join.welcomeWait = none := by
        by_contra hsome
        simp [(hwait (Option.isSome_iff_ne_none.2 hsome)).1] at hstation
      refine .inl (Option.some.inj ?_)
      rw [← ht, ← hs, State.tick, State.beside_fillTag,
        State.tickWelcome_of_stopped (by rw [State.tickFrame_join]; exact hnone), State.tickFrame_fillTag]
  · rcases step_cases hstep with ⟨c, rest, hp, hexec⟩ | ⟨hp, -⟩
    · obtain rfl : c = .confirmedRise := by simpa [hp] using hc
      have hstarting : s.join.station ≠ .starting := by rcases hstation with ⟨h, -⟩ | h <;> simp [h]
      have hrise : State.riseBlocks { s with pending := rest, barrier.confirmed := some .high } =
          State.swapEdge { s with pending := rest, barrier.confirmed := some .high } := by
        rcases hstation with ⟨h, h' | h'⟩ | h
        · simp only [State.riseBlocks, h, h']
        · simp only [State.riseBlocks, h, h']
        · simp only [State.riseBlocks, h]
      have ht : exec .confirmedRise { s with pending := rest } = .next
          (State.takeRise { s with pending := rest, barrier.confirmed := some .high }).settle := if_pos ⟨hstarting, hlow⟩
      obtain rfl := Host.Outcome.next.inj (ht.symm.trans hexec)
      exact (State.swapEdge_settle _ _ hrise).1.trans (by simp [nextTag, hs])
    · simp [hp] at hc

/-- Settles O59. -/
theorem resetMeetsEveryInvariant : Obligations.ResetMeetsEveryInvariant := by
  have hnone : ∀ u, u ∉ State.reset.rx.undo := fun u h => by cases h
  refine ⟨⟨Memory.wf_nil _, Memory.wf_nil _, Memory.wf_nil _, Memory.wf_nil _, Memory.wf_nil _, Memory.wf_nil _⟩, by decide, by decide, by decide,
    ⟨by decide, fun u h => absurd h (hnone u)⟩, ⟨⟨0, rfl⟩, fun u h => absurd h (hnone u)⟩,
    ⟨⟨?_, ?_, ?_, ?_, ?_, ?_, ?_, ?_⟩, fun u h => absurd h (hnone u)⟩, ?_⟩
  all_goals simp [RecordWf, JoinWf, TagWf, TransmissionWf, BarrierWf, FrameWf, LinesWf, IntakeTagsWf, Settled, State.reset,
    Join.reset, Link.reset, Receiver.reset, Barrier.reset, Intake.reset, Publisher.reset, FrameStore.reset, waitingEntries]

end Sys2Proof.Proofs
end

section
/-! SUPPORT. A MEMBER between a completion and its slot, with a record of what a truncation would take back that the invariants allow. -/

namespace Sys2Proof.Machine

open Sys2Proof.Safety

/-- A record that passes every check of CONFIGURE. -/
def smallRecord : Record :=
  { station := 3, orientation := .n, canvasWidth := 64, canvasHeight := 32, originX := 16, originY := 0, columns := 16, rows := 16,
    lineTime := 20, framePeriod := 80, holdMultiple := 2, bitRate := .mbit4, baseMode := .carry, overlayMode := .clear }

/-- The Join Controller of a MEMBER. -/
def memberJoin : Join := { Join.reset with station := .member }

/-- The Barrier Unit of a MEMBER in FILLING, with tag 5. -/
def fillingBarrier : Barrier :=
  { Barrier.reset with phase := some .filling, driverLow := true, timerRunning := true, fillTag := some 5, confirmed := some .low }

/-- A scan at the first row, on the banks shown after reset. -/
def firstRow : FrameStore := { FrameStore.reset with scan := some { row := 0, base := .a, overlay := .a } }

/-- A MEMBER with tag 5 between a completion and its slot, of which a truncation would put back the blocks as they are, with the queue
and the flip request given. -/
def memberBeside (lost : Option LostQueue) (request : RequestBefore) : State :=
  { State.reset with
    record := some smallRecord
    digest := some (crc smallRecord.wallBytes)
    join := memberJoin
    barrier := fillingBarrier
    link := { Link.reset with view := .burst, atSlot := true }
    rx := { Receiver.reset with undo := some ⟨0, 0, 0, 0, 0, 0, some ⟨memberJoin, fillingBarrier, lost, request⟩⟩ }
    frame := firstRow
    port := { Port.reset with psel := .low, phase := .command } }

/-- With no pending outcome, and the digest computed, what ties the blocks together is decided by their items. -/
theorem blocksWf_of_no_outcome {s : State} (houtcome : s.rx.outcome = none)
    (hdigest : s.digest = s.record.map fun r => crc r.wallBytes)
    (hstation : ((∀ r ∈ s.record, r.valid = true) ∧
      (s.record.isSome ↔ s.join.station ≠ .starting ∧ s.join.station ≠ .unconfigured)) ∧ JoinWf s ∧ TagWf s ∧ TransmissionWf s)
    (htimes : BarrierWf s ∧ FrameWf s) (hlists : LinesWf s ∧ (s.intake.committing = true → s.intake.queue ≠ []) ∧ ∀ e ∈ waitingEntries s, s.barrier.fillTag = some e.tag) :
    BlocksWf s := by
  obtain ⟨⟨hvalid, hrecord⟩, hjoin, htag, htransmission⟩ := hstation
  obtain ⟨hbarrier, hframe⟩ := htimes
  obtain ⟨hlines, hhead, hwaiting⟩ := hlists
  refine ⟨⟨hvalid, hdigest, hrecord⟩, hjoin, htag, htransmission, hbarrier, hframe, hlines, hhead, hwaiting, fun o ho => ?_⟩
  rw [houtcome] at ho
  cases ho

/-- The state that a command leaves. -/
def stateAfter : Host.Outcome State Fault Refusal → State
  | .next t => t
  | _ => State.reset

end Sys2Proof.Machine
end

section
/-! The statements refuted by a state that the invariants allow: O57 and O58. -/

namespace Sys2Proof.Proofs

open Sys2Proof.Machine Sys2Proof.Safety

/-- The MEMBER with an empty publish queue, an entry being committed and one that waits; a truncation would put the publish queue back,
empty as it is. WITHDRAW is taken next. -/
def memberWithContent : State :=
  { memberBeside (some ⟨[], 0, false, false, false⟩) .same with
    intake := { queue := [⟨5, .palette 0 []⟩, ⟨5, .palette 0 []⟩], committing := true, palette := [] }
    pending := [.withdraw] }

theorem wallWf_memberWithContent : WallWf memberWithContent := by
  refine ⟨blocksWf_of_no_outcome rfl rfl (by decide) (by decide) (by decide), ?_⟩
  rintro u ⟨⟩
  exact ⟨rfl, rfl, blocksWf_of_no_outcome rfl rfl (by decide) (by decide) (by decide), by decide⟩

/-- Refutes O57: the request is appended to the publish queue, but a truncation would still put the empty queue back, beside content that
waits in a station that is no OBSERVER. -/
theorem not_stepKeepsTheStationInOrder : ¬ Obligations.StepKeepsTheStationInOrder := by
  intro h
  have hstep : step memberWithContent = .next (stateAfter (step memberWithContent)) := rfl
  obtain ⟨-, hundo⟩ := h _ _ wallWf_memberWithContent hstep
  have hbad : ∃ u ∈ (stateAfter (step memberWithContent)).rx.undo, u.blocks.isSome ∧
      waitingEntries (stateAfter (step memberWithContent)) ≠ [] ∧
      (stateAfter (step memberWithContent)).join.station ≠ .observer ∧
      (State.putBack (stateAfter (step memberWithContent)) u).pub ≠ (stateAfter (step memberWithContent)).pub := by
    decide
  obtain ⟨u, hu, hblocks, hwaiting, hstation, hpub⟩ := hbad
  obtain ⟨-, -, -, hbeside⟩ := hundo u hu
  obtain ⟨-, -, -, halike⟩ := hbeside hblocks
  rcases halike hwaiting with hobserver | ⟨-, -, hsame, -⟩
  · exact hstation hobserver
  · exact hpub hsame

/-- A flip request of the frame that closed last. -/
def lastFrame (passEnd : Bool) : FlipRequest := { tag := some 4, damage := false, heldCommit := false, passEnd := passEnd }

/-- The MEMBER with both layers waiting for a flip whose pass has not ended, and a mark of damage due; a truncation would put the request
back with its pass ended. BUS_IDLE is next. -/
def memberWithMark : State :=
  { memberBeside none (.made (lastFrame true)) with
    frame := { firstRow with baseState := .flipPending, overlayState := .flipPending, request := some (lastFrame false), markDue := true }
    pending := [.busIdle] }

theorem wallWf_memberWithMark : WallWf memberWithMark := by
  refine ⟨blocksWf_of_no_outcome rfl rfl (by decide) (by decide) (by decide), ?_⟩
  rintro u ⟨⟩
  exact ⟨rfl, rfl, blocksWf_of_no_outcome rfl rfl (by decide) (by decide) (by decide), by decide⟩

theorem settled_memberWithMark : Settled memberWithMark := by
  refine ⟨?_, ?_, ?_, ?_, ?_, ?_⟩ <;> decide

/-- Refutes O58: the truncation puts the request back and the flip is made at once, but the mark of damage stays due. -/
theorem not_stepLeavesTheStationSettled : ¬ Obligations.StepLeavesTheStationSettled := by
  intro h
  have hstep : step memberWithMark = .next (stateAfter (step memberWithMark)) := rfl
  obtain ⟨-, -, -, -, -, hmark⟩ := h _ _ wallWf_memberWithMark settled_memberWithMark hstep
  exact absurd (hmark (by decide)) (by decide)

end Sys2Proof.Proofs
end

section
/-! SUPPORT. A completion and the truncation that takes it back: the station put back is the station of before. -/

namespace Sys2Proof.Machine

open Sys2Proof.Safety

/-! ### What a truncation puts back (R28) -/

/-- A station `p` beside the station `t` that a completion has made of it: the ports differ only in what a truncation puts back, the
frame store, the confirmed level and the cadence record are the same, and of the Publisher only what an entry to OBSERVER takes. -/
structure State.Beside (p t : State) (lost : Bool) : Prop where
  port : p.port.Near t.port
  frame : t.frame = p.frame
  confirmed : t.barrier.confirmed = p.barrier.confirmed
  cadence : t.barrier.cadence = p.barrier.cadence
  pub : p.pub = if lost then
      { t.pub with queue := p.pub.queue, stagingNext := p.pub.stagingNext, held := p.pub.held
                   welcomePending := p.pub.welcomePending, spaceWanted := p.pub.spaceWanted }
    else t.pub

theorem FrameStore.requestBeside_self (f : FrameStore) : f.requestBeside f = .same := by
  unfold FrameStore.requestBeside
  cases f.request <;> rfl

theorem State.putBack_eq_of_same_request (t : State) {u : Undo} {b : BlocksBefore} (hb : u.blocks = some b) (hr : b.request = .same) :
    t.putBack u =
      { t with
        rx := { t.rx with undo := none }, join := b.join
        barrier := { b.barrier with confirmed := t.barrier.confirmed, cadence := t.barrier.cadence }
        pub := (match b.lost with
          | some q => { t.pub with queue := q.queue, stagingNext := q.stagingNext, held := q.held, welcomePending := q.welcomePending,
                                   spaceWanted := q.spaceWanted }
          | none => t.pub)
        port := (t.putBack u).port } := by
  simp only [State.putBack, State.putBackBlocks, hb, hr] <;> rfl

/-- What is kept of a completion that changed the Join Controller or the Barrier Unit puts the station of before back. -/
theorem State.Beside.putBack_of_blocks {p t : State} {lost : Bool} (h : p.Beside t lost) :
    t.putBack { p.undoBeside t with blocks := some (p.blocksBeside t lost) } =
      { t with rx := { t.rx with undo := none }, join := p.join, barrier := p.barrier, pub := p.pub, port := p.port } := by
  have hport := State.putBack_port_of_near (u := { p.undoBeside t with blocks := some (p.blocksBeside t lost) }) h.port rfl
  have hrequest : (p.blocksBeside t lost).request = .same := by
    rw [State.blocksBeside, h.frame]
    exact p.frame.requestBeside_self
  rw [State.putBack_eq_of_same_request t rfl hrequest, hport, h.confirmed, h.cadence]
  refine Eq.trans ?_ (congrArg
    (fun x : Publisher =>
      { t with
        rx := { t.rx with undo := none }, join := p.join, barrier := p.barrier, pub := x, port := p.port }) h.pub.symm)
  cases lost <;> rfl

theorem State.Beside.putBack_of_same {p t : State} {lost : Bool} (h : p.Beside t lost) :
    t.putBack (p.undoBeside t) = { t with rx := { t.rx with undo := none }, port := p.port } := by
  rw [← State.putBack_port_of_near (u := p.undoBeside t) h.port rfl]
  rfl

/-! ### The station beside its completion -/

theorem State.near_react (s : State) : s.port.Near s.react.port := by
  rcases s.react_cases with ⟨h, -⟩ | ⟨-, -, -, h⟩ | ⟨-, -, -, -, -, h⟩ | ⟨-, -, -, -, -, h⟩ <;> rw [h]
  · exact .refl _
  · exact .refl _
  · exact .refl _
  · exact (s.near_count (.inl rfl)).trans
      (State.near_raise (State.count { s with barrier.forced := true } .forced) (e := .overdue) (by simp) (by simp))

/-- The classification of a burst of another station, beside the station before it. -/
theorem State.beside_classify {s : State} (r : Record) (hfree : s.pub.transmission = none) :
    s.Beside (s.classify r false) (decide ((s.classify r false).join.station ≠ s.join.station)) := by
  obtain ⟨m, hleaves, j, b, o, refuse, q, hmove, -, hnear, heq⟩ := s.classify_classifiesTo r false
  have hstation : j.station = m.join.station := by cases hmove <;> rfl
  have hconfirmed : b.confirmed = m.barrier.confirmed ∧ b.cadence = m.barrier.cadence := by cases hmove <;> exact ⟨rfl, rfl⟩
  rw [heq]
  rcases hleaves with rfl | ⟨-, hon, rfl⟩
  · refine ⟨hnear, rfl, hconfirmed.1, hconfirmed.2, ?_⟩
    rw [if_neg (by simp [hstation])]
  · refine ⟨.trans (State.near_raise _ (by simp) (by simp)) hnear, rfl, hconfirmed.1, hconfirmed.2, ?_⟩
    rw [if_pos (by rw [hstation]; rcases hon with h | h | h <;> simp [h])]
    show s.pub = { s.pub with transmission := none }
    rw [← hfree]

/-- In a burst, a settled station whose flip, intake queue and record stand as they were acts by its barrier alone. -/
theorem State.settleBlocks_of_same_frame {s t : State} (h : Settled s) (hrecord : s.record.isSome) (hframe : t.frame = s.frame)
    (hintake : t.intake = s.intake) (hview : t.link.view = .burst) : t.settleBlocks = t.react := by
  obtain ⟨hflip, hhead, -⟩ := h
  have hcommit : t.beginCommit = t := by
    rcases t.beginCommit_cases with ⟨heq, -⟩ | ⟨e, rest, hq, hc, he, -⟩
    · exact heq
    · rw [hintake] at hq hc
      rw [hframe, hhead e (by simp [hq]) hc] at he
      cases he
  rw [State.settleBlocks_of_burst hview, State.tryFlip_of_not_due (by rw [hframe]; exact hflip hrecord), hcommit]

theorem settled_of_burst {s : State} (h : Settled s) {l : Link} (hview : l.view = .burst) (x : Receiver) (q : Port) :
    Settled { s with link := l, rx := x, port := q } := by
  obtain ⟨hflip, hhead, hfilling, hanswered, -, hmark⟩ := h
  refine ⟨hflip, hhead, hfilling, hanswered, fun hidle => ?_, hmark⟩
  rcases hidle with h | h <;> cases hview.symm.trans h

theorem State.beside_of_blocks (f g : State → State) {s p : State} {u : Undo} {b : BlocksBefore} (hu : s.rx.undo = some u)
    (hb : u.blocks = some b) (hp : g (s.putBack u) = p) :
    s.beside f g =
      { f s with
        rx := { (f s).rx with
          undo := some { p.undoBeside (f s) with blocks := some (p.blocksBeside (f s) b.lost.isSome) } } } := by
  subst hp
  simp only [State.beside, hu, Option.bind_some, hb, Option.map_some]

/-- A completion and what follows it, taken back in the same burst, leave the settled station of before, its bits taken in (R28). -/
theorem State.undoCompletion_of_completion {s : State} (h : Settled s) (hrecord : s.record.isSome) {j : Join} {l : Link} {x : Receiver}
    {b : Barrier} {p : Publisher} {q : Port} (hview : l.view = .burst) {c t : State}
    (hc : c = { s with join := j, link := l, rx := x, barrier := b, pub := p, port := q })
    (hbeside : s.Beside c (decide (c.join.station ≠ s.join.station))) (ht : (s.keepCompletion c).settle = t) :
    State.undoCompletion { t with rx := { t.rx with outcome := none } } =
        { s with link := l, rx := { x with outcome := none, undo := none } } ∧
      t.link = l ∧ t.pub = p := by
  subst ht
  have hlike (x' : Receiver) : s.Beside { c with rx := x' } (decide (c.join.station ≠ s.join.station)) :=
    ⟨hbeside.port, hbeside.frame, hbeside.confirmed, hbeside.cadence, hbeside.pub⟩
  by_cases hsame : c.join = s.join ∧ c.barrier = s.barrier
  · have hpub : s.pub = c.pub := by
      have hpub := hbeside.pub
      rwa [hsame.1, decide_eq_false (not_not_intro rfl), if_neg Bool.false_ne_true] at hpub
    have hkept : (s.keepCompletion c).settle = { c with rx := { c.rx with undo := some (s.undoBeside c) } } := by
      rw [State.keepCompletion_of_same hsame.1 hsame.2]
      obtain ⟨-, -, hsettle⟩ := State.settle_eq { c with rx := { c.rx with undo := some (s.undoBeside c) } }
      refine (hsettle (by rintro u ⟨⟩; rfl)).trans (State.settleBlocks_of_settled ?_)
      have hquiet := settled_of_burst h hview { c.rx with undo := some (s.undoBeside c) } q
      subst hc
      obtain ⟨rfl, rfl⟩ := hsame
      exact hpub ▸ hquiet
    have hput := (hlike { c.rx with outcome := none, undo := some (s.undoBeside c) }).putBack_of_same
    rw [hkept]
    refine ⟨Eq.trans hput ?_, by rw [hc], by rw [hc]⟩
    subst hc
    obtain ⟨hjoin, hbarrier⟩ := hsame
    dsimp only at hjoin hbarrier hpub ⊢
    rw [hjoin, hbarrier, ← hpub]
  · generalize hlost : decide (c.join.station ≠ s.join.station) = lost at hbeside hlike
    obtain ⟨u, hu⟩ : ∃ u, u = { s.undoBeside c with blocks := some (s.blocksBeside c lost) } := ⟨_, rfl⟩
    obtain ⟨k, hk⟩ : ∃ k : State, k = { c with rx := { c.rx with undo := some u } } := ⟨_, rfl⟩
    obtain ⟨y, hy⟩ : ∃ y : State, y = { s with link := l, rx := { x with undo := none } } := ⟨_, rfl⟩
    have hkept : s.keepCompletion c = k := by rw [State.keepCompletion, if_neg hsame, hlost, ← hu, ← hk]
    have hput : k.putBack u = y := by
      have hput := (hlike { c.rx with undo := some u }).putBack_of_blocks
      rw [hk, hu, hy]
      rw [hu] at hput
      refine Eq.trans hput ?_
      rw [hc]
    have hquiet : y.settleBlocks = y := by
      rw [hy]
      exact State.settleBlocks_of_settled (settled_of_burst h hview { x with undo := none } s.port)
    have hreact : k.settleBlocks = k.react := by
      refine State.settleBlocks_of_same_frame h hrecord ?_ ?_ ?_ <;> rw [hk, hc]
      exact hview
    have hsettle := State.beside_of_blocks State.settleBlocks State.settleBlocks (s := k) (p := y) (by rw [hk])
      (by rw [hu]) (by rw [hput, hquiet])
    rw [hreact] at hsettle
    have hkc : k.port = c.port ∧ k.frame = c.frame ∧ k.barrier = c.barrier ∧ k.pub = c.pub ∧ k.link = c.link := by
      rw [hk]
      exact ⟨rfl, rfl, rfl, rfl, rfl⟩
    obtain ⟨hport, hframe, hbarrier, hpub, hlink⟩ := hkc
    have hlast (x' : Receiver) : y.Beside { k.react with rx := x' } lost := by
      refine ⟨?_, ?_, ?_, ?_, ?_⟩
      · have hnear := hbeside.port.trans (hport ▸ k.near_react)
        rwa [hy]
      · exact (k.react_frame.trans hframe).trans (by rw [hbeside.frame, hy])
      · exact (k.react_barrier_confirmed.trans (congrArg Barrier.confirmed hbarrier)).trans (by rw [hbeside.confirmed, hy])
      · exact (k.react_barrier_cadence.trans (congrArg Barrier.cadence hbarrier)).trans (by rw [hbeside.cadence, hy])
      · have hpub' : k.react.pub = c.pub := k.react_pub.trans hpub
        rw [hy]
        refine hbeside.pub.trans ?_
        rw [← hpub']
    have hlost' : (s.blocksBeside c lost).lost.isSome = lost := by cases lost <;> rfl
    rw [hlost'] at hsettle
    obtain ⟨u', hu'⟩ : ∃ u', u' = { y.undoBeside k.react with blocks := some (y.blocksBeside k.react lost) } := ⟨_, rfl⟩
    have hback := (hlast { k.react.rx with outcome := none, undo := some u' }).putBack_of_blocks
    have hfinal : (s.keepCompletion c).settle = { k.react with rx := { k.react.rx with undo := some u' } } := by
      rw [hkept, hu']
      exact hsettle
    rw [hfinal]
    refine ⟨?_, ?_, ?_⟩
    · refine Eq.trans (Eq.trans ?_ hback) ?_
      · rw [hu']
        rfl
      · obtain ⟨b', q', hreacted⟩ := k.react_blocks
        rw [hreacted, hk, hy, hc]
    · exact k.react_link.trans (hlink.trans (by rw [hc]))
    · exact k.react_pub.trans (hpub.trans (by rw [hc]))

/-- A classification changes no view of the bus and opens no bit period. -/
theorem State.classify_keeps_view (s : State) (r : Record) (own : Bool) :
    ∃ j l o b p q, s.classify r own =
        { s with join := j, link := l, rx := { s.rx with outcome := o }, barrier := b, pub := p, port := q } ∧
      l.view = s.link.view ∧ l.bitOpen = s.link.bitOpen ∧ (s.pub.transmission = none → p.transmission = none) := by
  obtain ⟨m, hleaves, j, b, o, refuse, q, -, -, -, heq⟩ := s.classify_classifiesTo r own
  rcases hleaves with rfl | ⟨-, -, rfl⟩
  · exact ⟨_, _, _, _, _, _, heq, rfl, rfl, id⟩
  · exact ⟨_, _, _, _, _, _, heq, rfl, rfl, fun _ => rfl⟩

theorem FrameStore.withdrawRequest_eq (f : FrameStore) :
    f.withdrawRequest =
      { f with
        request := none, markDue := false
        baseState := if f.baseState = .preparing then .preparing else .steady
        overlayState := if f.overlayState = .preparing then .preparing else .steady } := by
  have hback (st : LayerState) : (match st with
      | .steady | .flipPending => LayerState.steady
      | .preparing => LayerState.preparing) = if st = .preparing then .preparing else .steady := by
    cases st <;> rfl
  rw [← hback, ← hback]
  rfl

/-! ### BUS_IDLE and START_PERIOD (R19, R20, R28) -/

/-- A burst that ends before its slot has run is truncated (R28). -/
theorem exec_busIdle_of_burst {s : State} (hview : s.link.view = .burst) (hfree : s.pub.transmission = none)
    (hslot : s.link.atSlot = false ∨ s.link.bitOpen = false) {p : State}
    (hp : State.undoCompletion { s with rx := { s.rx with outcome := none } } = p) :
    exec .busIdle s = .next (State.settle
      { p with
        link := { view := .idle, idleCount := 4, bitOpen := false, atSlot := false, refuse := false, drive := .released }
        port := { p.port with counters := { p.port.counters with truncated := saturate p.port.counters.truncated } } }) := by
  have hboth : (s.link.atSlot && s.link.bitOpen) = false := by rcases hslot with h | h <;> simp [h]
  simp only [exec, execBusIdle, hview, if_pos (And.intro hfree hboth), State.truncate, hp]
  rfl

theorem State.settle_view_of_opening {s : State} (h : s.link.view = .opening) : s.settle.link.view = .opening := by
  obtain ⟨-, hlink, -⟩ := s.settle_blocks
  rw [hlink, State.settleBlocks]
  rcases s.tryFlip.beginCommit.react.arbitrate_cases with ⟨heq, -⟩ | ⟨t, -, -, -, heq⟩ <;> rw [heq]
  simpa using h

theorem State.openStart_of_idle {s : State} (h : s.link.view = .idle) :
    s.openStart = State.settle { s with link := { s.link with view := .opening, idleCount := 0 } } := if_pos h

theorem State.openStart_of_other {s : State} (h : s.link.view ≠ .idle) : s.openStart = s := if_neg h

theorem State.sampleStart_of_opening {s : State} (h : s.link.view = .opening) :
    s.sampleStart .low =
        { s with
          link := { s.link with view := .burst, bitOpen := false, atSlot := false, refuse := false }
          rx := s.rx.startBurst, join.edgeCount := 0 } ∧
      (s.pub.transmission = none → s.sampleStart .high = { s with link := { s.link with view := .waiting, idleCount := 0 } }) ∧
      (s.pub.transmission ≠ none → s.sampleStart .high =
        ((State.count { s with link := { s.link with view := .waiting, idleCount := 0 } } .bitErrors).stopDriving .bitError).settle) := by
  refine ⟨if_pos h, fun hfree => ?_, fun hbusy => ?_⟩
  · simp [State.sampleStart, h, hfree]
  · simp [State.sampleStart, h, Option.isSome_iff_ne_none, hbusy]

end Sys2Proof.Machine
end

section
/-! The statement of BUS_IDLE and START_PERIOD: O25. -/

namespace Sys2Proof.Proofs

open Sys2Proof.Machine Sys2Proof.Safety

/-- Settles O25. -/
theorem busIdleAndStartPeriodOpenABurst : Obligations.BusIdleAndStartPeriodOpenABurst := by
  refine ⟨fun s => ⟨fun hview => ?_, fun hview hfree hslot => ⟨?_, fun hundo => ?_, fun u hundo => ?_⟩⟩, ?_, ?_, ?_, ?_, ?_, ?_, ?_⟩
  · rcases hview with h | h <;> simp only [exec, execBusIdle, h]
  · exact exec_busIdle_of_burst hview hfree hslot rfl
  · simp [State.undoCompletion, hundo]
  · have hput : State.undoCompletion { s with rx := { s.rx with outcome := none } } =
        State.putBack { s with rx := { s.rx with outcome := none } } u := by
      simp only [State.undoCompletion, hundo]
    refine ⟨fun hblocks => ?_, fun w hblocks => ?_⟩
    · rw [hput, State.putBack, hblocks]
      rfl
    · rw [hput, State.putBack, hblocks]
      obtain ⟨join, barrier, lost, request⟩ := w
      cases request with
      | same => cases lost <;> rfl
      | withdrawn =>
        simp only [State.putBackBlocks, FrameStore.withdrawRequest_eq]
        cases lost <;> rfl
      | made q =>
        simp only [State.putBackBlocks, FrameStore.stand_eq]
        cases lost <;> rfl
  · intro s l hwall hsettled hcan hfree
    obtain ⟨hburst, -, -, -, hrecord, -⟩ := id hcan
    obtain ⟨r, hr⟩ := Option.isSome_iff_exists.1 hrecord
    have hbeside := State.beside_classify (s := completed s l) r hfree
    obtain ⟨j, lk, o, b, p, q, hc, hview, hopen, hidle⟩ := (completed s l).classify_keeps_view r false
    obtain ⟨hback, hlink, hpub⟩ := State.undoCompletion_of_completion hsettled hrecord (hview.trans hburst) hc
      ⟨hbeside.port, hbeside.frame, hbeside.confirmed, hbeside.cadence, hbeside.pub⟩ rfl
    refine ⟨_, exec_completion_of_canComplete hcan hr, ?_⟩
    have hown : s.pub.transmission.isSome = false := by rw [hfree]; rfl
    rw [hown]
    exact exec_busIdle_of_burst (by rw [hlink]; exact hview.trans hburst) (by rw [hpub]; exact hidle hfree)
      (.inr (by rw [hlink]; exact hopen)) hback
  · intro s hview
    exact congrArg Host.Outcome.next (State.openStart_of_idle hview)
  · intro s hview
    exact congrArg Host.Outcome.next (State.openStart_of_other (by simp [hview]))
  · intro s t l hview hopen
    obtain rfl : s.openStart = t := Host.Outcome.next.inj hopen
    have hview' : s.openStart.link.view = .opening := by
      rw [State.openStart_of_idle hview]
      exact State.settle_view_of_opening rfl
    have hagain : s.openStart.openStart = s.openStart := State.openStart_of_other (by simp [hview'])
    exact congrArg (fun x => Host.Outcome.next (State.sampleStart x l)) hagain.symm
  · intro s hview
    have hopen := State.openStart_of_other (s := s) (by simp [hview])
    exact congrArg Host.Outcome.next ((congrArg (State.sampleStart · .low) hopen).trans (State.sampleStart_of_opening hview).1)
  · intro s hview hfree
    have hopen := State.openStart_of_other (s := s) (by simp [hview])
    exact congrArg Host.Outcome.next
      ((congrArg (State.sampleStart · .high) hopen).trans ((State.sampleStart_of_opening hview).2.1 hfree))
  · intro s hview hbusy
    have hopen := State.openStart_of_other (s := s) (by simp [hview])
    exact congrArg Host.Outcome.next
      ((congrArg (State.sampleStart · .high) hopen).trans ((State.sampleStart_of_opening hview).2.2 hbusy))

end Sys2Proof.Proofs
end

section
/-! SUPPORT. The soft reset: what the commit and the preparation passes that it stops leave in the fill banks and the palette. -/

namespace Sys2Proof.Machine

open Sys2Proof.Safety

/-! ### What any list of writes leaves at an address -/

/-- After a list of writes an address reads what it held, or what one of them wrote there. -/
theorem Memory.read_writeAll_cases {α : Type} [DecidableEq α] {d : α} (cells : List (Nat × α)) {m : Memory α} (h : Memory.wf d m)
    (a : Nat) :
    Memory.read d (m.writeAll d cells) a = Memory.read d m a ∨ (a, Memory.read d (m.writeAll d cells) a) ∈ cells := by
  induction cells generalizing m with
  | nil => exact .inl rfl
  | cons c cells ih =>
    obtain ⟨k, v⟩ := c
    rcases ih (Memory.wf_write k v h) with hkept | hwritten
    · by_cases hat : a = k
      · subst hat
        refine .inr (List.mem_cons.2 (.inl (Prod.ext rfl ?_)))
        exact hkept.trans (by rw [Memory.read_write _ _ _ h, if_pos rfl])
      · exact .inl (hkept.trans (by rw [Memory.read_write _ _ _ h, if_neg hat]))
    · exact .inr (List.mem_cons_of_mem _ hwritten)

/-! ### The commit that a soft reset abandons (R113) -/

/-- The content of the entry being committed. -/
def State.Commits (s : State) (c : Content) : Prop :=
  s.intake.committing = true ∧ s.intake.queue.head?.map IntakeEntry.content = some c

/-- What the commit in progress would write at a position of the base. -/
def State.CommitsBase (s : State) (r : Record) (a : Nat) (v : Color) : Prop :=
  (∃ f q slot k, ∃ h : k < slot.length, s.Commits (.stripe .base f q slot) ∧
    r.addressOf (q.x + k % q.width) (q.y + k / q.width) = some a ∧ v = expand s.intake.palette slot[k]) ∨
  ∃ q color transparent, s.Commits (.fill .base q color transparent) ∧ a ∈ r.intersectionAddresses q ∧ v = color

/-- What the commit in progress would write at a position of the overlay. -/
def State.CommitsOverlay (s : State) (r : Record) (a : Nat) (v : OverlayPixel) : Prop :=
  (∃ f q slot k, ∃ h : k < slot.length, s.Commits (.stripe .overlay f q slot) ∧
    r.addressOf (q.x + k % q.width) (q.y + k / q.width) = some a ∧ v = expandOverlay s.intake.palette slot[k]) ∨
  ∃ q color transparent, s.Commits (.fill .overlay q color transparent) ∧ a ∈ r.intersectionAddresses q ∧
    v = if transparent then OverlayPixel.clear else ⟨color, true⟩

/-- What the commit in progress would write at an entry of the palette. -/
def State.CommitsPalette (s : State) (a : Nat) (v : Color) : Prop :=
  ∃ first slot, s.Commits (.palette first slot) ∧ first ≤ a ∧ some v = slot[a - first]?

/-- What an abandoned commit leaves: only fill banks and the palette are touched, with nothing of it when no commit runs, and every
position of a fill bank and every entry of the palette holds its old value or the one of the commit. -/
structure State.Abandons (s : State) (f : FrameStore) (palette : Memory Color) : Prop where
  only : s.frame.OnlyFillBanks f
  idle : s.intake.committing = false → f = s.frame ∧ palette = s.intake.palette
  banks : StoresWf s → f.BanksWf
  base : StoresWf s → ∀ (r : Record) (a : Nat), s.record = some r →
    Memory.read Color.black f.baseFill a = Memory.read Color.black s.frame.baseFill a ∨
      s.CommitsBase r a (Memory.read Color.black f.baseFill a)
  overlay : StoresWf s → ∀ (r : Record) (a : Nat), s.record = some r →
    Memory.read OverlayPixel.clear f.overlayFill a = Memory.read OverlayPixel.clear s.frame.overlayFill a ∨
      s.CommitsOverlay r a (Memory.read OverlayPixel.clear f.overlayFill a)
  entries : StoresWf s → ∀ a, Memory.read Color.black palette a = Memory.read Color.black s.intake.palette a ∨
    s.CommitsPalette a (Memory.read Color.black palette a)

theorem State.abandons_same (s : State) : s.Abandons s.frame s.intake.palette :=
  ⟨.refl _, fun _ => ⟨rfl, rfl⟩, fun h => ((storesWf_iff s).1 h).1, fun _ _ _ _ => .inl rfl, fun _ _ _ _ => .inl rfl,
    fun _ _ => .inl rfl⟩

/-- A cell of the first pixels of a STRIPE is a cell of the STRIPE. -/
theorem stripeCell_of_take {r : Record} {q : Rect} {slot : List RawPixel} {n a : Nat} {α : Type} {v : RawPixel → α} {w : α}
    (h : (a, w) ∈ (stripeCells r q (slot.take n)).map fun c => (c.1, v c.2)) :
    ∃ k, ∃ hk : k < slot.length, r.addressOf (q.x + k % q.width) (q.y + k / q.width) = some a ∧ w = v slot[k] := by
  obtain ⟨c, hc, heq⟩ := List.mem_map.1 h
  obtain ⟨k, hk, hpixel, hat⟩ := mem_stripeCells_iff.1 hc
  obtain ⟨rfl, rfl⟩ := Prod.mk.inj heq
  rw [List.length_take] at hk
  exact ⟨k, by omega, hat, by rw [hpixel, List.getElem_take]⟩

section

variable {s : State} {r : Record} {e : IntakeEntry} {rest : List IntakeEntry}

theorem State.commits_head {c : Content} (hc : s.intake.committing = true) (hq : s.intake.queue = e :: rest) (he : e.content = c) :
    s.Commits c := ⟨hc, by rw [hq, ← he]; rfl⟩

theorem State.abandons_stripe {l : Layer} {f : Format} {q : Rect} {slot : List RawPixel} (n : Nat) (hr : s.record = some r)
    (hcommits : s.Commits (.stripe l f q slot)) :
    s.Abandons (s.frame.writeStripe r s.intake.palette l q (slot.take n)) s.intake.palette := by
  refine ⟨s.frame.onlyFillBanks_writeStripe .., fun hidle => absurd hcommits.1 (by simp [hidle]),
    fun h => ((storesWf_iff s).1 h).1.writeStripe .., fun h r' a hr' => ?_, fun h r' a hr' => ?_, fun _ _ => .inl rfl⟩
  all_goals
    obtain rfl : r = r' := Option.some.inj (hr.symm.trans hr')
    have hbanks := ((storesWf_iff s).1 h).1
  · cases l with
    | base =>
      rw [FrameStore.writeStripe, FrameStore.baseFill_setBaseFill]
      refine (Memory.read_writeAll_cases _ (hbanks.base _) a).imp_right fun hcell => .inl ?_
      obtain ⟨k, hk, hat, hv⟩ := stripeCell_of_take hcell
      exact ⟨f, q, slot, k, hk, hcommits, hat, hv⟩
    | overlay => exact .inl (by rw [FrameStore.baseFill_writeStripe_overlay])
  · cases l with
    | base => exact .inl (by rw [FrameStore.overlayFill_writeStripe_base])
    | overlay =>
      rw [FrameStore.writeStripe, FrameStore.overlayFill_setOverlayFill]
      refine (Memory.read_writeAll_cases _ (hbanks.overlay _) a).imp_right fun hcell => .inl ?_
      obtain ⟨k, hk, hat, hv⟩ := stripeCell_of_take hcell
      exact ⟨f, q, slot, k, hk, hcommits, hat, hv⟩

theorem State.abandons_fill {l : Layer} {q : Rect} {color : Color} {transparent : Bool} (p : Nat → Bool) (hr : s.record = some r)
    (hcommits : s.Commits (.fill l q color transparent)) :
    s.Abandons (s.frame.writeFill r l q color transparent p) s.intake.palette := by
  have hat {α : Type} {a : Nat} {v w : α} (h : (a, w) ∈ ((r.intersectionAddresses q).filter p).map fun a => (a, v)) :
      a ∈ r.intersectionAddresses q ∧ w = v := by
    obtain ⟨b, hb, heq⟩ := List.mem_map.1 h
    obtain ⟨rfl, rfl⟩ := Prod.mk.inj heq
    exact ⟨(List.mem_filter.1 hb).1, rfl⟩
  refine ⟨s.frame.onlyFillBanks_writeFill .., fun hidle => absurd hcommits.1 (by simp [hidle]),
    fun h => ((storesWf_iff s).1 h).1.writeFill .., fun h r' a hr' => ?_, fun h r' a hr' => ?_, fun _ _ => .inl rfl⟩
  all_goals
    obtain rfl : r = r' := Option.some.inj (hr.symm.trans hr')
    have hbanks := ((storesWf_iff s).1 h).1
  · cases l with
    | base =>
      rw [FrameStore.writeFill, FrameStore.baseFill_setBaseFill]
      refine (Memory.read_writeAll_cases _ (hbanks.base _) a).imp_right fun hcell => .inr ?_
      exact ⟨q, color, transparent, hcommits, hat hcell⟩
    | overlay => exact .inl (by simp [FrameStore.writeFill, FrameStore.baseFill])
  · cases l with
    | base => exact .inl (by simp [FrameStore.writeFill, FrameStore.overlayFill])
    | overlay =>
      rw [FrameStore.writeFill, FrameStore.overlayFill_setOverlayFill]
      refine (Memory.read_writeAll_cases _ (hbanks.overlay _) a).imp_right fun hcell => .inr ?_
      exact ⟨q, color, transparent, hcommits, hat hcell⟩

theorem State.abandons_palette {first : Nat} {slot : List Color} (n : Nat) (hcommits : s.Commits (.palette first slot)) :
    s.Abandons s.frame (writePalette s.intake.palette first (slot.take n)) := by
  refine ⟨.refl _, fun hidle => absurd hcommits.1 (by simp [hidle]), fun h => ((storesWf_iff s).1 h).1, fun _ _ _ _ => .inl rfl,
    fun _ _ _ _ => .inl rfl, fun h a => ?_⟩
  rw [read_writePalette_eq_dite ((storesWf_iff s).1 h).2.1]
  split
  · rename_i hin
    obtain ⟨hfirst, hlt⟩ := hin
    rw [List.length_take] at hlt
    refine .inr ⟨first, slot, hcommits, hfirst, ?_⟩
    rw [List.getElem_take, List.getElem?_eq_getElem]
  · exact .inl rfl

end

/-- The abandoned commit touches fill banks and the palette alone. -/
theorem State.abandonCommit_abandons (s : State) :
    ∃ f palette, s.Abandons f palette ∧
      s.abandonCommit = { s with frame := f, intake := { s.intake with palette := palette } } := by
  unfold State.abandonCommit
  split
  · rename_i r e rest hr hc hq
    split
    · rename_i l f q slot he
      exact ⟨_, _, State.abandons_stripe _ hr (State.commits_head hc hq he), rfl⟩
    · rename_i l q color transparent he
      exact ⟨_, _, State.abandons_fill _ hr (State.commits_head hc hq he), rfl⟩
    · rename_i first slot he
      exact ⟨_, _, State.abandons_palette _ (State.commits_head hc hq he), rfl⟩
  · exact ⟨_, _, s.abandons_same, rfl⟩

/-! ### The preparation passes that a soft reset cancels (R151) -/

section

variable (f : FrameStore) (r : Record) (free : Nat)

theorem FrameStore.cancelPass_of_other {l : Layer} (h : f.layerState l ≠ .preparing) : f.cancelPass r l free = f := if_neg h

theorem FrameStore.overlayFill_cancelPass_base : (f.cancelPass r .base free).overlayFill = f.overlayFill := by
  unfold FrameStore.cancelPass
  split
  · rw [FrameStore.prepare_base_eq]
    rfl
  · rfl

theorem FrameStore.baseFill_cancelPass_overlay : (f.cancelPass r .overlay free).baseFill = f.baseFill := by
  unfold FrameStore.cancelPass
  split
  · rw [FrameStore.prepare_overlay_eq]
    rfl
  · rfl

/-- Of a cancelled pass a position of the base holds what it held, or what the pass would have written there. -/
theorem FrameStore.read_cancelPass_base (hwf : f.BanksWf) (a : Nat) :
    Memory.read Color.black (f.cancelPass r .base free).baseFill a = Memory.read Color.black f.baseFill a ∨
      (f.baseState = .preparing ∧ (a % 128 < r.columns ∧ a / 128 < r.rows) ∧
        (r.baseMode = .carry ∧
            Memory.read Color.black (f.cancelPass r .base free).baseFill a = Memory.read Color.black (f.base f.shownBase) a ∨
          r.baseMode = .clear ∧ Memory.read Color.black (f.cancelPass r .base free).baseFill a = Color.black)) := by
  by_cases hp : f.layerState .base = .preparing
  · obtain ⟨hread, -⟩ := f.read_prepare_base (r.mode .base) (fun a => r.inUse a && Config.cancelledPassWrote free .base a) hwf.1
      hwf.2.1 a
    have hcancel : f.cancelPass r .base free =
        f.prepare (r.mode .base) .base fun a => r.inUse a && Config.cancelledPassWrote free .base a := if_pos hp
    rw [hcancel, hread]
    split
    · rename_i hwrote
      have hin := (r.inUse_iff a).1 (Bool.and_eq_true_iff.1 hwrote).1
      rw [show r.mode .base = r.baseMode from rfl]
      cases r.baseMode with
      | keep => exact .inl rfl
      | carry => exact .inr ⟨hp, hin, .inl ⟨rfl, rfl⟩⟩
      | clear => exact .inr ⟨hp, hin, .inr ⟨rfl, rfl⟩⟩
    · exact .inl rfl
  · exact .inl (by rw [f.cancelPass_of_other r free hp])

/-- Of a cancelled pass a position of the overlay holds what it held, or what the pass would have written there. -/
theorem FrameStore.read_cancelPass_overlay (hwf : f.BanksWf) (a : Nat) :
    Memory.read OverlayPixel.clear (f.cancelPass r .overlay free).overlayFill a = Memory.read OverlayPixel.clear f.overlayFill a ∨
      (f.overlayState = .preparing ∧ (a % 128 < r.columns ∧ a / 128 < r.rows) ∧
        (r.overlayMode = .carry ∧ Memory.read OverlayPixel.clear (f.cancelPass r .overlay free).overlayFill a =
            Memory.read OverlayPixel.clear (f.overlay f.shownOverlay) a ∨
          r.overlayMode = .clear ∧
            Memory.read OverlayPixel.clear (f.cancelPass r .overlay free).overlayFill a = OverlayPixel.clear)) := by
  by_cases hp : f.layerState .overlay = .preparing
  · obtain ⟨hread, -⟩ := f.read_prepare_overlay (r.mode .overlay) (fun a => r.inUse a && Config.cancelledPassWrote free .overlay a)
      hwf.2.2.1 hwf.2.2.2 a
    have hcancel : f.cancelPass r .overlay free =
        f.prepare (r.mode .overlay) .overlay fun a => r.inUse a && Config.cancelledPassWrote free .overlay a := if_pos hp
    rw [hcancel, hread]
    split
    · rename_i hwrote
      have hin := (r.inUse_iff a).1 (Bool.and_eq_true_iff.1 hwrote).1
      rw [show r.mode .overlay = r.overlayMode from rfl]
      cases r.overlayMode with
      | keep => exact .inl rfl
      | carry => exact .inr ⟨hp, hin, .inl ⟨rfl, rfl⟩⟩
      | clear => exact .inr ⟨hp, hin, .inr ⟨rfl, rfl⟩⟩
    · exact .inl rfl
  · exact .inl (by rw [f.cancelPass_of_other r free hp])

/-- The Frame Store with both layers' running passes cancelled. -/
def FrameStore.cancelPasses (f : FrameStore) (record : Option Record) (free : Nat) : FrameStore :=
  match record with
  | some r => (f.cancelPass r .base free).cancelPass r .overlay free
  | none => f

theorem FrameStore.onlyFillBanks_cancelPasses (record : Option Record) : f.OnlyFillBanks (f.cancelPasses record free) := by
  cases record with
  | none => exact .refl f
  | some r => exact (f.onlyFillBanks_cancelPass ..).trans (FrameStore.onlyFillBanks_cancelPass ..)

theorem FrameStore.OnlyFillBanks.states {f g : FrameStore} (h : f.OnlyFillBanks g) :
    g.baseState = f.baseState ∧ g.overlayState = f.overlayState := by
  rw [h.1]
  exact ⟨rfl, rfl⟩

/-- With no pass running there is none to cancel. -/
theorem FrameStore.cancelPasses_of_other (record : Option Record) (hbase : f.baseState ≠ .preparing)
    (hoverlay : f.overlayState ≠ .preparing) : f.cancelPasses record free = f := by
  cases record with
  | none => rfl
  | some r =>
    rw [FrameStore.cancelPasses, f.cancelPass_of_other r free (l := .base) hbase,
      f.cancelPass_of_other r free (l := .overlay) hoverlay]

end

end Sys2Proof.Machine
end

section
/-! The statement of the soft reset: O6. -/

namespace Sys2Proof.Proofs

open Sys2Proof.Machine Sys2Proof.Safety

/-- Settles O6: the commit in progress is abandoned first, then the passes are cancelled, and each leaves a position of its layer's fill
bank alone or writes it as it would have done. -/
theorem softResetKeepsAndResets : Obligations.SoftResetKeepsAndResets := by
  intro s hphase
  obtain ⟨f, palette, habandons, habandon⟩ := State.abandonCommit_abandons (taken s [0x12] s.port.response)
  have hcancel := f.onlyFillBanks_cancelPasses s.freeIndex s.record
  have honly : s.frame.OnlyFillBanks (f.cancelPasses s.record s.freeIndex) := habandons.only.trans hcancel
  refine ⟨f.cancelPasses s.record s.freeIndex, palette, ?_, honly.1, ?_, ?_, fun hidle => (habandons.idle hidle).2,
    fun hidle hbase hoverlay => ?_, fun hwf r a hr => ⟨?_, ?_, habandons.entries hwf a⟩⟩
  · have hreset : exec .reset s =
        .next { State.softReset (taken s [0x12] s.port.response) with
          port := { (State.softReset (taken s [0x12] s.port.response)).port with response := [0x00] } } :=
      congrArg Host.Outcome.next (State.receive_alone hphase ..)
    have hjoin : s.join.softReset =
        { station := match s.join.station with
            | .starting => .starting
            | .unconfigured => .unconfigured
            | .configured | .joining | .listening | .member | .observer => .configured
          budget := 0, joinPending := false, welcomeWait := none, quietLow := false, admission := none, edgeCount := 0
          reason := none, mismatch := none } := by
      unfold Join.softReset
      cases s.join.station <;> rfl
    have hframe : f.softReset s.record s.freeIndex =
        { f.cancelPasses s.record s.freeIndex with
          baseState := .steady, overlayState := .steady, request := none, markDue := false, stage := none } := by
      cases s.record <;> rfl
    rw [hreset, State.softReset, habandon]
    refine congrArg Host.Outcome.next ?_
    dsimp only [taken]
    rw [hjoin, hframe] <;> rfl
  · rw [honly.shownBase]
    exact honly.2.1
  · rw [honly.shownOverlay]
    exact honly.2.2
  · obtain ⟨rfl, -⟩ := habandons.idle hidle
    exact FrameStore.cancelPasses_of_other _ _ _ hbase hoverlay
  · have hfill : (f.cancelPasses s.record s.freeIndex).baseFill = (f.cancelPass r .base s.freeIndex).baseFill := by
      rw [hr]
      exact FrameStore.baseFill_cancelPass_overlay ..
    rw [hfill]
    rcases f.read_cancelPass_base r s.freeIndex (habandons.banks hwf) a with hkept | hwrote
    · rw [hkept]
      exact (habandons.base hwf r a hr).imp_right .inr
    · rw [habandons.only.states.1, habandons.only.shownBase] at hwrote
      rw [habandons.only.2.1] at hwrote
      exact .inr (.inl hwrote)
  · have hfill : (f.cancelPasses s.record s.freeIndex).overlayFill =
        ((f.cancelPass r .base s.freeIndex).cancelPass r .overlay s.freeIndex).overlayFill := by
      rw [hr]
      rfl
    have honly' := habandons.only.trans (f.onlyFillBanks_cancelPass r .base s.freeIndex)
    have hbanks' := (habandons.banks hwf).cancelPass r .base s.freeIndex
    rw [hfill]
    rcases FrameStore.read_cancelPass_overlay _ r s.freeIndex hbanks' a with hkept | hwrote
    · rw [hkept, FrameStore.overlayFill_cancelPass_base]
      exact (habandons.overlay hwf r a hr).imp_right .inr
    · rw [honly'.states.2, honly'.shownOverlay] at hwrote
      rw [honly'.2.2] at hwrote
      exact .inr (.inl hwrote)

end Sys2Proof.Proofs
end
